-- ==== Sys2Proof/Word.lean ====
section
/-! DEFINITION. The widths the spec names (00_scope.md R7, R8) and the shape of a calibration table
(00_scope.md R15, 10_state.md R50). -/

namespace Sys2Proof

/-- A host register, a command word: 32 bits (R8, R20, R80). -/
abbrev Word := BitVec 32

/-- One sensor register, one byte of an answer, a sensor register offset (R7, R60). -/
abbrev Byte := BitVec 8

/-- A calibration constant as stored, before its signedness is applied (R7, R50). -/
abbrev Half := BitVec 16

/-- The 7-bit bus device address (R7, R39). -/
abbrev DevAddr := BitVec 7

/-- A raw ADC sample (R7, R15). -/
abbrev Raw := BitVec 20

/-- The twelve calibration constants in the field order of R50; the shape of CAL[0..11] and of
SHADOW[0..11] (R50, R53).  Signedness belongs to the reader of a field (Operands.lean). -/
structure CalTable where
  t1 : Half
  t2 : Half
  t3 : Half
  p1 : Half
  p2 : Half
  p3 : Half
  p4 : Half
  p5 : Half
  p6 : Half
  p7 : Half
  p8 : Half
  p9 : Half
  deriving DecidableEq, Repr, Inhabited

end Sys2Proof
end

