-- ==== Sys2Proof/Machine/Arith.lean ====
section
/-! DEFINITION. The arithmetic notation of 00_scope.md R11: values are integers, and every wrap is
written. -/

namespace Sys2Proof.Machine

/-- `wrapS64(v)`: the unique w with -2^63 ≤ w < 2^63 and w ≡ v (mod 2^64) (R11). -/
def wrapS64 (v : Int) : Int := v.bmod (2 ^ 64)

/-- `wrapS32(v)` (R11). -/
def wrapS32 (v : Int) : Int := v.bmod (2 ^ 32)

/-- `wrapU32(v)`: v mod 2^32, in [0, 2^32) (R11). -/
def wrapU32 (v : Int) : Int := v % 2 ^ 32

/-- `a >>s k`: floor(a / 2^k) for any signed a (R11, R140 (a)); on an unsigned a it is `a >>u k`. -/
def sra (a : Int) (k : Nat) : Int := a >>> k

/-- `a << k`: a × 2^k, before any wrap (R11, R140 (b)). -/
def shl (a : Int) (k : Nat) : Int := a * 2 ^ k

/-- `divT(a, b)` of the 64-bit rules: truncating division, `divT(-2^63, -1) = -2^63` by the wrap
(R11, R151). -/
def divT (a b : Int) : Int := wrapS64 (a.tdiv b)

/-- `divU(a, b)`: floor(a / b) for unsigned a and b (R11). -/
def divU (a b : Int) : Int := a / b

/-- The 64-bit sum of compP64 (R140 (e)). -/
def add64 (a b : Int) : Int := wrapS64 (a + b)

/-- The 64-bit difference of compP64 (R140 (e)). -/
def sub64 (a b : Int) : Int := wrapS64 (a - b)

/-- The 64-bit product of compP64 (R140 (e)). -/
def mul64 (a b : Int) : Int := wrapS64 (a * b)

/-- The 64-bit left shift of compP64 (R140 (e)). -/
def shl64 (a : Int) (k : Nat) : Int := wrapS64 (shl a k)

/-- The s32 sum of compP32 (R140 (f)). -/
def addS32 (a b : Int) : Int := wrapS32 (a + b)

/-- The s32 difference of compP32 (R140 (f)). -/
def subS32 (a b : Int) : Int := wrapS32 (a - b)

/-- The s32 product of compP32 (R140 (f)). -/
def mulS32 (a b : Int) : Int := wrapS32 (a * b)

/-- The u32 sum of compP32 (R140 (f)). -/
def addU32 (a b : Int) : Int := wrapU32 (a + b)

/-- The u32 difference of compP32 (R140 (f)). -/
def subU32 (a b : Int) : Int := wrapU32 (a - b)

/-- The u32 product of compP32 (R140 (f)). -/
def mulU32 (a b : Int) : Int := wrapU32 (a * b)

end Sys2Proof.Machine
end

