-- ==== Sys2Proof/Config.lean ====
section
/-! DEFINITION. What the spec leaves open and the model takes as an argument (00_scope.md R9), and the
free values of what the spec calls unspecified (93_implementation_defined.md U8).  None has a body: no
proof can see a value of it. -/

namespace Sys2Proof.Config

/-- `P_DEV_ADDR_RESET` (R9, R39; U9): the 7-bit reset value of DEV_ADDR.  Log entry 3. -/
opaque devAddrReset : DevAddr

/-- What CMDL holds after reset: unspecified (R51, R56; U8).  One value per draw.  Log entry 4. -/
opaque freeCmdl : Nat → Word

/-- What SHADOW holds after reset and after a failed INIT: unspecified (R53, R56; U8).  Log entry 5. -/
opaque freeShadow : Nat → CalTable

/-- What CAL stores while CAL_VALID = 0: unspecified, and read as 0 (R50, R56; U8).  Log entry 6. -/
opaque freeCal : Nat → CalTable

end Sys2Proof.Config
end

