-- ==== Sys2Proof/Machine/State.lean ====
section
/-! DEFINITION. All the state the spec gives BPCE (10_state.md), as plain data, and the state after
reset (R56).  The last four fields are the model's own: the environment's schedule, two records of what
the ports carried, and the counter of free draws. -/

namespace Sys2Proof.Machine

/-- R28: the sequencer state machine; the encodings 5–7 are never held and have no constructor. -/
inductive SeqState where
  | uninit | busOpen | calibrated | ready | failed
  deriving DecidableEq, Repr

/-- R52, R110: the engine's position, the counterpart of a program counter.  `idle` while BUSY = 0;
`decode` before the DECODE step; every other value names the answer the running command waits for
(log entry 13). -/
inductive SeqStep where
  | idle
  | decode
  /-- INIT, waiting for its OPEN -/
  | initOpen
  /-- INIT, waiting for the calibration read of field `i` -/
  | initRead (i : Fin 12)
  /-- INIT, waiting for its mode-register write -/
  | initWrite
  | readT
  | readP
  | readAlt
  deriving DecidableEq, Repr

/-- R100: the byte counts an RD can carry, n ∈ {2, 3}. -/
inductive RdCount where
  | two | three
  deriving DecidableEq, Repr

/-- R54, R100: a sensor-bus transaction. -/
inductive BusReq where
  | openDev (dev : DevAddr)
  | rd (dev : DevAddr) (reg : Byte) (n : RdCount)
  | wr (dev : DevAddr) (reg : Byte) (v : Byte)
  deriving DecidableEq, Repr

/-- R12, R70, R100: the oracle's answer to a transaction.  `ok` carries three bytes, of which an RD of n
bytes uses the first n and an OPEN or a WR none (log entry 10). -/
inductive BusAnswer where
  | fail
  | ok (b0 b1 b2 : Byte)
  deriving DecidableEq, Repr

/-- R72: one event of the total order of host accesses and engine steps (log entry 1). -/
inductive Event where
  /-- the engine may take a step that needs no answer: DECODE (R104) -/
  | engine
  /-- the oracle answers the transaction in flight, and the engine takes the step that consumes it (R101) -/
  | answer (a : BusAnswer)
  /-- an answer to a transaction that a reset abandoned (R231; log entry 11) -/
  | lateAnswer (a : BusAnswer)
  /-- a 32-bit host read at a byte offset (R61) -/
  | hostRead (off : Byte)
  /-- a 32-bit host write at a byte offset (R61) -/
  | hostWrite (off : Byte) (v : Word)
  /-- the platform applies reset (R230) -/
  | reset
  deriving DecidableEq, Repr

/-- The machine.  Reserved bits of every register read 0 and are not stored (R62), and STATUS is held
field by field (log entry 13). -/
structure State where
  /-- CTRL.IE (R22) -/
  ie : Bool
  /-- STATUS.BUSY (R25) -/
  busy : Bool
  /-- STATUS.DONE (R26) -/
  done : Bool
  /-- STATUS.IGN (R27) -/
  ign : Bool
  /-- STATUS.SEQ_STATE (R28) -/
  seqState : SeqState
  /-- STATUS.BUS_OPEN (R29) -/
  busOpen : Bool
  /-- STATUS.CAL_VALID (R30) -/
  calValid : Bool
  /-- STATUS.TVALID (R31) -/
  tvalid : Bool
  /-- STATUS.PVALID (R32) -/
  pvalid : Bool
  /-- STATUS.P32VALID (R33) -/
  p32valid : Bool
  /-- STATUS.AVALID (R34) -/
  avalid : Bool
  /-- STATUS.RVALID (R35) -/
  rvalid : Bool
  /-- STATUS.PSENT (R36) -/
  psent : Bool
  /-- ERR (R38) -/
  err : Word
  /-- DEV_ADDR[6:0] (R39) -/
  devAddr : DevAddr
  /-- SLP, u32 Q24.8 Pa (R40) -/
  slp : Word
  /-- RAW_T[19:0] (R41) -/
  rawT : Raw
  /-- RAW_P[19:0] (R42) -/
  rawP : Raw
  /-- T_FINE, s32 (R43) -/
  tFine : Word
  /-- TEMP, s32, 0.01 °C (R44) -/
  temp : Word
  /-- PRESS, u32 Q24.8 Pa (R45) -/
  press : Word
  /-- PRESS32, u32 Pa (R46) -/
  press32 : Word
  /-- ALT, s32 Q23.8 m (R47) -/
  alt : Word
  /-- ARG (R48) -/
  arg : Word
  /-- RES (R49) -/
  res : Word
  /-- CAL[0..11] as stored (R50) -/
  cal : CalTable
  /-- CMDL, hidden (R51) -/
  cmdl : Word
  /-- STEP, hidden (R52) -/
  seqStep : SeqStep
  /-- SHADOW[0..11], hidden (R53) -/
  shadow : CalTable
  /-- BUSREQ, hidden: the transaction in flight, if any (R54) -/
  busreq : Option BusReq
  /-- the model's own: the environment's events to come, in order (log entry 1) -/
  inputs : List Event
  /-- the model's own: every transaction issued on the sensor bus port, newest first (R225; log entry 9) -/
  busLog : List BusReq
  /-- the model's own: the 32 bits the last host read returned (log entry 8) -/
  portData : Word
  /-- the model's own: how many times a free value has been drawn (log entry 7) -/
  draws : Nat
  deriving DecidableEq, Repr

/-- A step of BPCE never ends in a fault.  R212: "BPCE has no trap mechanism"; R214: "Host register
accesses never fail"; a failing command completes, and a transaction that never answers leaves the
machine running in place (R101).  So no reason exists and the type has no constructor. -/
inductive Fault where
  deriving DecidableEq, Repr

/-- Why the model gives an instruction no meaning. -/
inductive Refusal where
  /-- Raised only by an arm of `exec` whose instruction has no meaning yet: safe, the run ends.  No arm
  raises it now. -/
  | notModelled (mnemonic : String)
  deriving DecidableEq, Repr

/-- What a step or a meaning answers. -/
abbrev Out := Host.Outcome State Fault Refusal

/-- R56, R230: every piece of state at its value after reset.  What BPCE does not own survives: the
environment's schedule, the two port records, and the counter, from which the unspecified values
(CMDL, SHADOW, stored CAL) are drawn. -/
def State.resetFrom (inputs : List Event) (busLog : List BusReq) (portData : Word) (d : Nat) : State where
  ie := false
  busy := false
  done := false
  ign := false
  seqState := .uninit
  busOpen := false
  calValid := false
  tvalid := false
  pvalid := false
  p32valid := false
  avalid := false
  rvalid := false
  psent := false
  err := 0x00000000
  devAddr := Config.devAddrReset
  slp := 0x018BCD00
  rawT := 0
  rawP := 0
  tFine := 0
  temp := 0
  press := 0
  press32 := 0
  alt := 0
  arg := 0
  res := 0
  cal := Config.freeCal d
  cmdl := Config.freeCmdl d
  seqStep := .idle
  shadow := Config.freeShadow d
  busreq := none
  inputs := inputs
  busLog := busLog
  portData := portData
  draws := d + 1

/-- The machine right after reset (R56), with no event scheduled and nothing yet carried on its ports. -/
def State.reset : State := State.resetFrom [] [] 0 0

end Sys2Proof.Machine
end

