-- ==== Sys2Proof/Machine/Flags.lean ====
section
/-! DEFINITION. STATUS as the host reads it (10_state.md R24), the interrupt output (60_exceptions.md
R215), and the valid bits each command clears at decode (R31–R36, R205). -/

namespace Sys2Proof.Machine

/-- R28: the 3-bit code of a sequencer state. -/
def seqCode : SeqState → BitVec 3
  | .uninit => 0
  | .busOpen => 1
  | .calibrated => 2
  | .ready => 3
  | .failed => 4

/-- R37, R215: the level of the interrupt output. -/
def irq (s : State) : Bool := s.ie && s.done

/-- R24: STATUS, from bit 31 down to bit 0. -/
def statusWord (s : State) : Word :=
  0#15 ++ BitVec.ofBool (irq s) ++ BitVec.ofBool s.psent ++ BitVec.ofBool s.rvalid ++
    BitVec.ofBool s.avalid ++ BitVec.ofBool s.p32valid ++ BitVec.ofBool s.pvalid ++
    BitVec.ofBool s.tvalid ++ BitVec.ofBool s.calValid ++ BitVec.ofBool s.busOpen ++ 0#1 ++
    seqCode s.seqState ++ 0#1 ++ BitVec.ofBool s.ign ++ BitVec.ofBool s.done ++ BitVec.ofBool s.busy

/-- READ_T, COMP_T at decode: TVALID <- 0 (R31, R107, R142). -/
def clearT (s : State) : State := { s with tvalid := false }

/-- READ_P, COMP_P at decode: PVALID <- 0; PSENT <- 0 (R32, R36, R108, R145). -/
def clearP (s : State) : State := { s with pvalid := false, psent := false }

/-- COMP_P32 at decode: P32VALID <- 0; PSENT <- 0 (R33, R36, R147). -/
def clearP32 (s : State) : State := { s with p32valid := false, psent := false }

/-- ALT at decode: AVALID <- 0 (R34, R180). -/
def clearA (s : State) : State := { s with avalid := false }

/-- READ_ALT at decode: PVALID <- 0; AVALID <- 0; PSENT <- 0 (R32, R34, R36, R109). -/
def clearPA (s : State) : State := { s with pvalid := false, avalid := false, psent := false }

/-- LOG2, EXP2 at decode: RVALID <- 0 (R35, R177, R178). -/
def clearR (s : State) : State := { s with rvalid := false }

/-- INIT at decode (R106, R233): the five epoch bits and PSENT, BUS_OPEN <- 0, SEQ_STATE <- UNINIT.  From
here to the commit CAL_VALID = 0 and what CAL stores is unspecified (U8), so it is drawn (log entry 6).
RVALID is not cleared (R35). -/
def clearEpoch (s : State) : State :=
  { s with
    calValid := false, tvalid := false, pvalid := false, p32valid := false, avalid := false,
    psent := false, busOpen := false, seqState := .uninit,
    cal := Config.freeCal s.draws, draws := s.draws + 1 }

end Sys2Proof.Machine
end

