-- ==== Sys2Proof/Syntax.lean ====
section
/-! DEFINITION. The eleven commands of BPCE command set 1 (00_scope.md R2, 30_encoding.md R83). -/

namespace Sys2Proof

/-- One constructor per row of spec/opcode_table.json.  A command word carries no operand, register or
immediate field (R82), so no constructor has an argument. -/
inductive Instr where
  | nop       -- NOP       R105
  | init      -- INIT      R106
  | readT     -- READ_T    R107
  | readP     -- READ_P    R108
  | readAlt   -- READ_ALT  R109
  | compT     -- COMP_T    R142
  | compP     -- COMP_P    R145
  | compP32   -- COMP_P32  R147
  | alt       -- ALT       R180
  | log2      -- LOG2      R177
  | exp2      -- EXP2      R178
  deriving DecidableEq, Repr

end Sys2Proof
end

