-- ==== Sys2Proof/WellFormed.lean ====
section
/-! DEFINITION. Which command words are legal (30_encoding.md R80, R85), stated without the decoder, and
well-formedness of an instruction. -/

namespace Sys2Proof

/-- R80: field RSV, bits 31:8, must be 0. -/
def rsvClear (w : Word) : Bool := w.toNat < 256

/-- R85: OPC is one of the eleven values of R83; unassigned are 0x05–0x0F, 0x13–0x1F, 0x23–0xFF. -/
def opcAssigned (w : Word) : Bool :=
  let o := w.toNat % 256
  decide (o ≤ 0x04) || (decide (0x10 ≤ o) && decide (o ≤ 0x12)) ||
    (decide (0x20 ≤ o) && decide (o ≤ 0x22))

/-- R85: a command word is illegal when RSV ≠ 0 or OPC is unassigned. -/
def legalWord (w : Word) : Bool := rsvClear w && opcAssigned w

/-- R82: a command carries no operand, so every command is well formed; what can be ill formed is a
command word, and `legalWord` is its check. -/
def Instr.wf : Instr → Bool
  | .nop | .init | .readT | .readP | .readAlt | .compT | .compP | .compP32 | .alt | .log2 | .exp2 => true

end Sys2Proof
end

