-- ==== Sys2Proof/Decode.lean ====
section
/-! DEFINITION. The decoder of 30_encoding.md R86, total on all 2^32 words, the encoder of R83 beside it,
and the decoder the host asks about opcode-table rows. -/

namespace Sys2Proof

/-- Why a word is no command (R85).  The machine does not stop on it: the decode step completes it with
ILLEGAL_COMMAND (Machine/Engine.lean). -/
inductive DecodeError where
  /-- bits 31:8 are not all 0 -/
  | reservedBits
  /-- bits 7:0 are none of the eleven opcodes -/
  | unassignedOpcode
  /-- fewer than four bytes were given (only for `decodeBytes`) -/
  | truncated
  deriving DecidableEq, Repr

/-- R80: `OPC = w[7:0]`. -/
def opcOf (w : Word) : Byte := w.extractLsb' 0 8

/-- R80: `RSV = w[31:8]`. -/
def rsvOf (w : Word) : BitVec 24 := w.extractLsb' 8 24

/-- The case table of R86. -/
def decodeOpc (o : Byte) : Option Instr :=
  match o.toNat with
  | 0x00 => some .nop
  | 0x01 => some .init
  | 0x02 => some .readT
  | 0x03 => some .readP
  | 0x04 => some .readAlt
  | 0x10 => some .compT
  | 0x11 => some .compP
  | 0x12 => some .compP32
  | 0x20 => some .alt
  | 0x21 => some .log2
  | 0x22 => some .exp2
  | _ => none

/-- R86: `decode`, with R85's two reasons for ILLEGAL kept apart; RSV is looked at first. -/
def decode (w : Word) : Except DecodeError Instr :=
  if rsvOf w ≠ 0 then .error .reservedBits
  else match decodeOpc (opcOf w) with
    | some i => .ok i
    | none => .error .unassignedOpcode

/-- The opcode column of R83. -/
def opcodeOf : Instr → Byte
  | .nop     => 0x00
  | .init    => 0x01
  | .readT   => 0x02
  | .readP   => 0x03
  | .readAlt => 0x04
  | .compT   => 0x10
  | .compP   => 0x11
  | .compP32 => 0x12
  | .alt     => 0x20
  | .log2    => 0x21
  | .exp2    => 0x22

/-- R83: each command word is `zext_32(OPC)`. -/
def encode (i : Instr) : Word := (opcodeOf i).setWidth 32

/-- R63: where the host bus carries bytes, BPCE is little-endian. -/
def wordOfBytes (b0 b1 b2 b3 : Byte) : Word := b3 ++ b2 ++ b1 ++ b0

/-- The four bytes of a word, lowest address first (R63). -/
def bytesOfWord (w : Word) : List Byte :=
  [w.extractLsb' 0 8, w.extractLsb' 8 8, w.extractLsb' 16 8, w.extractLsb' 24 8]

/-- Decoding the first command of a byte stream; R81: every command is one 32-bit word.  Answers the
command and the bytes after it. -/
def decodeBytes : List Byte → Except DecodeError (Instr × List Byte)
  | b0 :: b1 :: b2 :: b3 :: rest =>
    match decode (wordOfBytes b0 b1 b2 b3) with
    | .ok i => .ok (i, rest)
    | .error e => .error e
  | _ => .error .truncated

/-- The instruction the decoder reads from a word whose low `nbits` bits are `w` and whose other bits
are 0 (one 32-bit word, R81). -/
def decodeTableWord (nbits w : Nat) : Option Instr :=
  match decode (BitVec.ofNat 32 (w % 2 ^ nbits)) with
  | .ok i => some i
  | .error _ => none

end Sys2Proof
end

