-- ==== Sys2Proof/Machine/Ops.lean ====
section
/-! DEFINITION. The named operations every command shares: completion, the counterpart of taking an
exception (60_exceptions.md R200, R212); acceptance and acknowledgement, the counterparts of a return
(R104, R213); issuing a bus transaction (R101); reset (70_reset_and_hazards.md R230, R231). -/

namespace Sys2Proof.Machine

/-- R201: the completion codes.  `busWriteError` is allocated and never written (R203). -/
inductive Code where
  | none
  | busUnavailable
  | busReadError
  | busWriteError
  | calibrationReadError
  | configurationError
  | notInitialized
  | illegalCommand
  | noTFine
  | noPressure
  | domainError
  deriving DecidableEq, Repr

/-- R201: the CODE column. -/
def codeByte : Code → Byte
  | .none => 0x00
  | .busUnavailable => 0x01
  | .busReadError => 0x02
  | .busWriteError => 0x03
  | .calibrationReadError => 0x04
  | .configurationError => 0x05
  | .notInitialized => 0x06
  | .illegalCommand => 0x10
  | .noTFine => 0x11
  | .noPressure => 0x12
  | .domainError => 0x13

/-- R38, R200: `{8'b0, OP, 4'b0, IDX, CODE}`. -/
def errWord (op : Byte) (idx : BitVec 4) (code : Code) : Word :=
  0#8 ++ op ++ 0#4 ++ idx ++ codeByte code

/-- R200: `complete(code, idx)`, the one way a command ends; `raise Name(info)` is the same (R12). -/
def complete (code : Code) (idx : BitVec 4) (s : State) : State :=
  { s with
    err := errWord (opcOf s.cmdl) idx code
    busy := false
    done := true
    seqStep := .idle
    busreq := Option.none }

/-- R101: issue a transaction and wait at `p` for its answer.  At most one is in flight (R71). -/
def issue (r : BusReq) (p : SeqStep) (s : State) : State :=
  { s with busreq := some r, seqStep := p, busLog := r :: s.busLog }

/-- R104: a write of `w` to CMD while BUSY = 0. -/
def accept (w : Word) (s : State) : State :=
  { s with cmdl := w, busy := true, done := false, seqStep := .decode }

/-- R27: a write BPCE cannot take sets IGN and changes nothing else. -/
def ignoreWrite (s : State) : State := { s with ign := true }

/-- R213: the host acknowledges, a W1C write of STATUS with `v`: DONE by bit 1, IGN by bit 2 (R26, R27). -/
def ackStatus (v : Word) (s : State) : State :=
  { s with done := s.done && !v.getLsbD 1, ign := s.ign && !v.getLsbD 2 }

/-- The schedule replaced: an event leaves it when it happens (log entry 1). -/
def setInputs (l : List Event) (s : State) : State := { s with inputs := l }

/-- R230, R231: reset, at any moment.  A running command does not complete and the transaction in flight
is abandoned.  The unspecified values are drawn anew. -/
def applyReset (s : State) : State := State.resetFrom s.inputs s.busLog s.portData s.draws

/-- R85: the decode step completes an illegal word and changes nothing else. -/
def completeIllegal (s : State) : State := complete .illegalCommand 0 s

end Sys2Proof.Machine
end

