-- ==== Sys2Proof/Machine/Altitude.lean ====
section
/-! DEFINITION. The altitude engine (42_altitude.md): log2fx, exp2fx, altfx and their constants, the
altitude stage, and the commands ALT, LOG2 and EXP2. -/

namespace Sys2Proof.Machine

/-- R170: the source's 44330.0. -/
def kAlt : Int := 44330

/-- R170: round(0.190294957 · 2^32). -/
def eAlt : Int := 817310617

/-- R170: 1.0 in Q8.24. -/
def one24 : Int := 16777216

/-- R170: 1.0 in Q2.30. -/
def one30 : Nat := 1073741824

/-- R171: the ROM C[1..24]. -/
def exp2Table : List Nat :=
  [1518500250, 1276901417, 1170923762, 1121280436, 1097253708, 1085434106, 1079572136, 1076653033] ++
  [1075196443, 1074468888, 1074105294, 1073923544, 1073832680, 1073787251, 1073764537, 1073753181] ++
  [1073747502, 1073744663, 1073743244, 1073742534, 1073742179, 1073742001, 1073741913, 1073741868]

/-- R172: `n` squarings still to do, the next one deciding fraction bit n - 1. -/
def log2Loop : Nat → Nat → Nat → Nat
  | 0, _, frac => frac
  | n + 1, m, frac =>
    let m := (m * m) >>> 31
    if 2 ^ 32 ≤ m then log2Loop n (m >>> 1) (frac ||| 1 <<< n) else log2Loop n m frac

/-- R172: log2fx for x ≠ 0, a value below 2^29.  Every caller has checked x ≠ 0 (log entry 14). -/
def log2fx (x : Word) : Nat :=
  let n := x.toNat.log2
  (n <<< 24) ||| log2Loop 24 (x.toNat <<< (31 - n)) 0

/-- R173: the product over the table; `b` is one more than the index of the fraction bit that the next
entry belongs to. -/
def exp2Loop (f : Nat) : Nat → List Nat → Nat → Nat
  | _, [], r => r
  | b, c :: cs, r => exp2Loop f (b - 1) cs (if f.testBit (b - 1) then (r * c) >>> 30 else r)

/-- R173: the integer part k = floor(y) and 2^fraction as Q2.30, of a signed Q8.24 exponent. -/
def exp2core (y : Int) : Int × Nat :=
  (sra y 24, exp2Loop (y % 2 ^ 24).toNat 24 exp2Table one30)

/-- R174: exp2fx, for k ≤ 7.  Every caller has k ≤ 7 (R176, R178; log entry 14). -/
def exp2fx (y : Int) : Nat :=
  let (k, r) := exp2core y
  if 6 ≤ k then r <<< (k - 6).toNat
  else
    let sh := (6 - k).toNat
    if 32 ≤ sh then 0 else r >>> sh

/-- R175: the barometric formula, signed Q23.8 metres, for S ≠ 0. -/
def altfx (p s : Word) : Int :=
  if p = 0 then shl kAlt 8
  else
    let l : Int := (log2fx p : Int) - (log2fx s : Int)
    let y := sra (l * eAlt) 32
    sra (kAlt * (one24 - (exp2fx y : Int))) 16

/-- R179: `ALT <- altfx(PRESS, SLP)` and `AVALID <- 1`. -/
def altitudeStage (s : State) : State :=
  { s with alt := BitVec.ofInt 32 (altfx s.press s.slp), avalid := true }

/-- ALT (R180). -/
def execAlt (s : State) : Out :=
  let s := clearA s
  if s.seqState ≠ .ready then .next (complete .notInitialized 0 s)
  else if s.pvalid = false then .next (complete .noPressure 0 s)
  else if s.slp = 0 then .next (complete .domainError 0 s)
  else .next (complete .none 0 (altitudeStage s))

/-- LOG2 (R177), in every SEQ_STATE. -/
def execLog2 (s : State) : Out :=
  let s := clearR s
  if s.arg = 0 then .next (complete .domainError 0 s)
  else .next (complete .none 0 { s with res := BitVec.ofNat 32 (log2fx s.arg), rvalid := true })

/-- EXP2 (R178), in every SEQ_STATE. -/
def execExp2 (s : State) : Out :=
  let s := clearR s
  if 8 ≤ sra s.arg.toInt 24 then .next (complete .domainError 0 s)
  else .next (complete .none 0 { s with res := BitVec.ofNat 32 (exp2fx s.arg.toInt), rvalid := true })

end Sys2Proof.Machine
end

