-- ==== Sys2Proof/Machine/Operands.lean ====
section
/-! DEFINITION. How operands are read: answer bytes into values (40_sequencer.md R102), a calibration
field by its index and with its signedness (10_state.md R50). -/

namespace Sys2Proof.Machine

/-- R67 (a), R102: a calibration word is little-endian, `b0` at the lower register address. -/
def cal16 (b0 b1 : Byte) : Half := b1 ++ b0

/-- R67 (b), R102: a data sample is MSB-first, and the 24-bit value loses bits 3:0. -/
def raw20 (b0 b1 b2 : Byte) : Raw := ((b0 ++ b1 ++ b2).extractLsb' 4 20 : BitVec 20)

/-- Field `i` of a calibration table, in the order of R50. -/
def calGet (c : CalTable) (i : Fin 12) : Half :=
  match i with
  | 0 => c.t1
  | 1 => c.t2
  | 2 => c.t3
  | 3 => c.p1
  | 4 => c.p2
  | 5 => c.p3
  | 6 => c.p4
  | 7 => c.p5
  | 8 => c.p6
  | 9 => c.p7
  | 10 => c.p8
  | 11 => c.p9

/-- The table with field `i` replaced: `SHADOW[i] <- v` (R106). -/
def calSet (c : CalTable) (i : Fin 12) (v : Half) : CalTable :=
  match i with
  | 0 => { c with t1 := v }
  | 1 => { c with t2 := v }
  | 2 => { c with t3 := v }
  | 3 => { c with p1 := v }
  | 4 => { c with p2 := v }
  | 5 => { c with p3 := v }
  | 6 => { c with p4 := v }
  | 7 => { c with p5 := v }
  | 8 => { c with p6 := v }
  | 9 => { c with p7 := v }
  | 10 => { c with p8 := v }
  | 11 => { c with p9 := v }

/-- R50: T1 (field 0) and P1 (field 3) are unsigned, the other ten signed. -/
def calUnsigned (i : Fin 12) : Bool := i = 0 || i = 3

/-- R50: the 32-bit read of a stored field, zero-extended for T1 and P1 and sign-extended for the rest. -/
def calExtend (c : CalTable) (i : Fin 12) : Word :=
  if calUnsigned i then (calGet c i).setWidth 32 else (calGet c i).signExtend 32

/-- R50, R65: the sensor register of field i's low byte, 0x88 + 2·i. -/
def calReg (i : Fin 12) : Byte := BitVec.ofNat 8 (0x88 + 2 * i.val)

/-- A u16 constant as an integer: T1, P1. -/
def u16 (h : Half) : Int := (h.toNat : Int)

/-- An s16 constant as an integer: T2, T3, P2 to P9. -/
def s16 (h : Half) : Int := h.toInt

/-- A raw sample as an integer. -/
def u20 (r : Raw) : Int := (r.toNat : Int)

end Sys2Proof.Machine
end

