-- ==== Sys2Proof/Machine/Compensation.lean ====
section
/-! DEFINITION. The compensation pipeline (41_compensation.md): compT, temp100, compP64, compP32, the
stages that write their results, and the commands COMP_T, COMP_P and COMP_P32.  The formulas are the
spec's own (marked there "from general knowledge, not in source"; log entry 16). -/

namespace Sys2Proof.Machine

/-- R141: the fine temperature, exact; no intermediate needs a wrap (R140 (d), R149). -/
def compT (raw : Raw) (t1 t2 t3 : Half) : Int :=
  let var1 := sra ((sra (u20 raw) 3 - shl (u16 t1) 1) * s16 t2) 11
  let d := sra (u20 raw) 4 - u16 t1
  let var2 := sra (sra (d * d) 12 * s16 t3) 14
  var1 + var2

/-- R143: T_fine to units of 0.01 °C. -/
def temp100 (tf : Int) : Int := sra (tf * 5 + 128) 8

/-- R144: the divisor of the 64-bit form, whose value 0 is the sentinel case (R146). -/
def divisor64 (tf : Word) (c : CalTable) : Int :=
  let var1 := sub64 tf.toInt 128000
  let var1 := add64 (sra (mul64 (mul64 var1 var1) (s16 c.p3)) 8) (shl64 (mul64 var1 (s16 c.p2)) 12)
  sra (mul64 (add64 (shl64 1 47) var1) (u16 c.p1)) 33

/-- R144: the offset term var2 of the 64-bit form, before the division. -/
def offset64 (tf : Word) (c : CalTable) : Int :=
  let var1 := sub64 tf.toInt 128000
  let var2 := mul64 (mul64 var1 var1) (s16 c.p6)
  let var2 := add64 var2 (shl64 (mul64 var1 (s16 c.p5)) 17)
  add64 var2 (shl64 (s16 c.p4) 35)

/-- R144: from the quotient p to the s64 result, before its low 32 bits are kept. -/
def finish64 (p : Int) (c : CalTable) : Int :=
  let var1 := sra (mul64 (mul64 (s16 c.p9) (sra p 13)) (sra p 13)) 25
  let var2 := sra (mul64 (s16 c.p8) p) 19
  add64 (sra (add64 (add64 p var1) var2) 8) (shl64 (s16 c.p7) 4)

/-- R144: compensated pressure in Q24.8 Pa, and the sentinel bit. -/
def compP64 (tf : Word) (raw : Raw) (c : CalTable) : Word × Bool :=
  let var1 := divisor64 tf c
  if var1 = 0 then (0, true)
  else
    let p := sub64 1048576 (u20 raw)
    let p := divT (mul64 (sub64 (shl64 p 31) (offset64 tf c)) 3125) var1
    (BitVec.ofInt 32 (wrapU32 (finish64 p c)), false)

/-- R148: the divisor of the 32-bit form, an s32. -/
def divisor32 (tf : Word) (c : CalTable) : Int :=
  let var1 := subS32 (sra tf.toInt 1) 64000
  let q := mulS32 (sra var1 2) (sra var1 2)
  let var1 := sra (addS32 (sra (mulS32 (s16 c.p3) (sra q 13)) 3) (sra (mulS32 (s16 c.p2) var1) 1)) 18
  sra (mulS32 (addS32 32768 var1) (u16 c.p1)) 15

/-- R148: the offset term var2 of the 32-bit form, an s32. -/
def offset32 (tf : Word) (c : CalTable) : Int :=
  let var1 := subS32 (sra tf.toInt 1) 64000
  let q := mulS32 (sra var1 2) (sra var1 2)
  let var2 := mulS32 (sra q 11) (s16 c.p6)
  let var2 := addS32 var2 (wrapS32 (shl (mulS32 var1 (s16 c.p5)) 1))
  addS32 (sra var2 2) (wrapS32 (shl (s16 c.p4) 16))

/-- R152: the division of the 32-bit form; `d` is the divisor read as unsigned. -/
def divide32 (p d : Int) : Int :=
  if p < 0x80000000 then divU (shl p 1) d else wrapU32 (divU p d * 2)

/-- R148: from the quotient p, a u32, to the result.  All three shifts of p are unsigned (R152). -/
def finish32 (p : Int) (c : CalTable) : Int :=
  let var1 := sra (mulS32 (s16 c.p9) (wrapS32 (sra (mulU32 (sra p 3) (sra p 3)) 13))) 12
  let var2 := sra (mulS32 (wrapS32 (sra p 2)) (s16 c.p8)) 13
  addU32 (wrapS32 p) (sra (addS32 (addS32 var1 var2) (s16 c.p7)) 4)

/-- R148: compensated pressure in integer Pa, and the sentinel bit. -/
def compP32 (tf : Word) (raw : Raw) (c : CalTable) : Word × Bool :=
  let var1 := divisor32 tf c
  if var1 = 0 then (0, true)
  else
    let p := mulU32 (subU32 (wrapU32 (1048576 - u20 raw)) (wrapU32 (sra (offset32 tf c) 12))) 3125
    (BitVec.ofInt 32 (finish32 (divide32 p (wrapU32 var1)) c), false)

/-- R107, R142: `T_FINE <- tf; TEMP <- temp100(tf); TVALID <- 1`, from RAW_T and CAL[0..2]. -/
def temperatureStage (s : State) : State :=
  let tf := compT s.rawT s.cal.t1 s.cal.t2 s.cal.t3
  { s with tFine := BitVec.ofInt 32 tf, temp := BitVec.ofInt 32 (temp100 tf), tvalid := true }

/-- R108, R109, R145: `PRESS <- p; PSENT <- s; PVALID <- 1`, from T_FINE, RAW_P and CAL[3..11]. -/
def pressureStage (s : State) : State :=
  let r := compP64 s.tFine s.rawP s.cal
  { s with press := r.1, psent := r.2, pvalid := true }

/-- R147: `PRESS32 <- p; PSENT <- s; P32VALID <- 1`. -/
def pressure32Stage (s : State) : State :=
  let r := compP32 s.tFine s.rawP s.cal
  { s with press32 := r.1, psent := r.2, p32valid := true }

/-- COMP_T (R142). -/
def execCompT (s : State) : Out :=
  let s := clearT s
  if s.seqState ≠ .ready then .next (complete .notInitialized 0 s)
  else .next (complete .none 0 (temperatureStage s))

/-- COMP_P (R145). -/
def execCompP (s : State) : Out :=
  let s := clearP s
  if s.seqState ≠ .ready then .next (complete .notInitialized 0 s)
  else if s.tvalid = false then .next (complete .noTFine 0 s)
  else .next (complete .none 0 (pressureStage s))

/-- COMP_P32 (R147). -/
def execCompP32 (s : State) : Out :=
  let s := clearP32 s
  if s.seqState ≠ .ready then .next (complete .notInitialized 0 s)
  else if s.tvalid = false then .next (complete .noTFine 0 s)
  else .next (complete .none 0 (pressure32Stage s))

end Sys2Proof.Machine
end

