-- ==== Sys2Proof/Machine/Sequencer.lean ====
section
/-! DEFINITION. The bus sequencer (40_sequencer.md): the DECODE step of NOP, INIT, READ_T, READ_P and
READ_ALT, and the steps that consume an answer (R101, R110). -/

namespace Sys2Proof.Machine

/-- R65: the sensor's mode register. -/
def modeReg : Byte := 0xF4

/-- R65, R112: the one mode byte. -/
def modeByte : Byte := 0x27

/-- R65: the pressure data register. -/
def pressReg : Byte := 0xF7

/-- R65: the temperature data register. -/
def tempReg : Byte := 0xFA

/-- NOP (R105). -/
def execNop (s : State) : Out := .next (complete .none 0 s)

/-- INIT up to transaction 1 (R106). -/
def execInit (s : State) : Out :=
  let s := clearEpoch s
  .next (issue (.openDev s.devAddr) .initOpen s)

/-- READ_T up to transaction 1 (R107). -/
def execReadT (s : State) : Out :=
  let s := clearT s
  if s.seqState ≠ .ready then .next (complete .notInitialized 0 s)
  else .next (issue (.rd s.devAddr tempReg .three) .readT s)

/-- READ_P up to transaction 1 (R108). -/
def execReadP (s : State) : Out :=
  let s := clearP s
  if s.seqState ≠ .ready then .next (complete .notInitialized 0 s)
  else if s.tvalid = false then .next (complete .noTFine 0 s)
  else .next (issue (.rd s.devAddr pressReg .three) .readP s)

/-- READ_ALT up to transaction 1 (R109). -/
def execReadAlt (s : State) : Out :=
  let s := clearPA s
  if s.seqState ≠ .ready then .next (complete .notInitialized 0 s)
  else if s.tvalid = false then .next (complete .noTFine 0 s)
  else if s.slp = 0 then .next (complete .domainError 0 s)
  else .next (issue (.rd s.devAddr pressReg .three) .readAlt s)

/-- INIT issues the calibration read of field `i` (R106, R113). -/
def issueCalRead (i : Fin 12) (s : State) : State :=
  issue (.rd s.devAddr (calReg i) .two) (.initRead i) s

/-- INIT fails: SEQ_STATE <- FAILED, then the completion (R106).  What SHADOW holds after a failed INIT is
unspecified (R53, U8), so it is drawn (log entry 5). -/
def initFail (code : Code) (idx : BitVec 4) (s : State) : State :=
  complete code idx
    { s with seqState := .failed, shadow := Config.freeShadow s.draws, draws := s.draws + 1 }

/-- INIT after OPEN (R106). -/
def afterOpen (a : BusAnswer) (s : State) : State :=
  match a with
  | .fail => initFail .busUnavailable 0 s
  | .ok _ _ _ => issueCalRead 0 { s with busOpen := true, seqState := .busOpen }

/-- INIT's commit: all twelve values into CAL in one step, and the mode write issued (R30, R53, R106). -/
def commitCal (s : State) : State :=
  issue (.wr s.devAddr modeReg modeByte) .initWrite
    { s with cal := s.shadow, calValid := true, seqState := .calibrated }

/-- INIT after the calibration read of field `i` (R106). -/
def afterCalRead (i : Fin 12) (a : BusAnswer) (s : State) : State :=
  match a with
  | .fail => initFail .calibrationReadError (BitVec.ofNat 4 i.val) s
  | .ok b0 b1 _ =>
    let s := { s with shadow := calSet s.shadow i (cal16 b0 b1) }
    if h : i.val + 1 < 12 then issueCalRead ⟨i.val + 1, h⟩ s else commitCal s

/-- INIT after the mode write (R106). -/
def afterModeWrite (a : BusAnswer) (s : State) : State :=
  match a with
  | .fail => initFail .configurationError 0 s
  | .ok _ _ _ => complete .none 0 { s with seqState := .ready }

/-- READ_T after its read (R107). -/
def afterReadT (a : BusAnswer) (s : State) : State :=
  match a with
  | .fail => complete .busReadError 0 s
  | .ok b0 b1 b2 => complete .none 0 (temperatureStage { s with rawT := raw20 b0 b1 b2 })

/-- READ_P after its read (R108). -/
def afterReadP (a : BusAnswer) (s : State) : State :=
  match a with
  | .fail => complete .busReadError 0 s
  | .ok b0 b1 b2 => complete .none 0 (pressureStage { s with rawP := raw20 b0 b1 b2 })

/-- READ_ALT after its read (R109, R179). -/
def afterReadAlt (a : BusAnswer) (s : State) : State :=
  match a with
  | .fail => complete .busReadError 0 s
  | .ok b0 b1 b2 =>
    complete .none 0 (altitudeStage (pressureStage { s with rawP := raw20 b0 b1 b2 }))

/-- R101: one atomic step consumes the answer to the transaction in flight.  With none in flight the
answer is one that a reset abandoned, and it is discarded (R231; log entry 11).  BUSREQ with STEP = IDLE
or DECODE occurs in no run, and the answer is then discarded too (log entry 20). -/
def consumeAnswer (a : BusAnswer) (s : State) : State :=
  match s.busreq with
  | none => s
  | some _ =>
    match s.seqStep with
    | .initOpen => afterOpen a s
    | .initRead i => afterCalRead i a s
    | .initWrite => afterModeWrite a s
    | .readT => afterReadT a s
    | .readP => afterReadP a s
    | .readAlt => afterReadAlt a s
    | .idle | .decode => s

end Sys2Proof.Machine
end

