-- ==== Sys2Proof/Machine/Dispatch.lean ====
section
/-! DEFINITION. What each command does at its DECODE step (40_sequencer.md R104). -/

namespace Sys2Proof.Machine

def exec (i : Instr) (s : State) : Host.Outcome State Fault Refusal :=
  match i with
  | .nop => Sys2Proof.Machine.execNop s
  | .init => Sys2Proof.Machine.execInit s
  | .readT => Sys2Proof.Machine.execReadT s
  | .readP => Sys2Proof.Machine.execReadP s
  | .readAlt => Sys2Proof.Machine.execReadAlt s
  | .compT => Sys2Proof.Machine.execCompT s
  | .compP => Sys2Proof.Machine.execCompP s
  | .compP32 => Sys2Proof.Machine.execCompP32 s
  | .alt => Sys2Proof.Machine.execAlt s
  | .log2 => Sys2Proof.Machine.execLog2 s
  | .exp2 => Sys2Proof.Machine.execExp2 s

end Sys2Proof.Machine
end

