-- ==== Sys2Proof/Machine/HostPort.lean ====
section
/-! DEFINITION. The host register port: the register map (10_state.md R20), reads (R20–R50, 20_memory.md
R61–R64) and writes with their locks (R21–R27, R39–R42, R48). -/

namespace Sys2Proof.Machine

/-- The registers of the map of R20. -/
inductive HostReg where
  | ctrl | cmd | status | err | devAddr | slp | rawT | rawP | tFine | temp | press | press32 | alt
  | arg | res
  | cal (i : Fin 12)
  deriving DecidableEq, Repr

/-- R20: the byte offset of a register. -/
def regOffset : HostReg → Byte
  | .ctrl => 0x00
  | .cmd => 0x04
  | .status => 0x08
  | .err => 0x0C
  | .devAddr => 0x10
  | .slp => 0x14
  | .rawT => 0x18
  | .rawP => 0x1C
  | .tFine => 0x20
  | .temp => 0x24
  | .press => 0x28
  | .press32 => 0x2C
  | .alt => 0x30
  | .arg => 0x34
  | .res => 0x38
  | .cal i => BitVec.ofNat 8 (0x40 + 4 * i.val)

/-- R20: the register of word number `n` of the map; none at a reserved word (R62). -/
def regOfIndex (n : Nat) : Option HostReg :=
  match n with
  | 0 => some .ctrl
  | 1 => some .cmd
  | 2 => some .status
  | 3 => some .err
  | 4 => some .devAddr
  | 5 => some .slp
  | 6 => some .rawT
  | 7 => some .rawP
  | 8 => some .tFine
  | 9 => some .temp
  | 10 => some .press
  | 11 => some .press32
  | 12 => some .alt
  | 13 => some .arg
  | 14 => some .res
  | 16 => some (.cal 0)
  | 17 => some (.cal 1)
  | 18 => some (.cal 2)
  | 19 => some (.cal 3)
  | 20 => some (.cal 4)
  | 21 => some (.cal 5)
  | 22 => some (.cal 6)
  | 23 => some (.cal 7)
  | 24 => some (.cal 8)
  | 25 => some (.cal 9)
  | 26 => some (.cal 10)
  | 27 => some (.cal 11)
  | _ => none

/-- R61: the port ignores offset bits 1:0. -/
def regAt (off : Byte) : Option HostReg := regOfIndex (off.toNat / 4)

/-- The 32-bit value a read of a register returns. -/
def regValue (r : HostReg) (s : State) : Word :=
  match r with
  | .ctrl => BitVec.setWidth 32 (BitVec.ofBool s.ie)
  | .cmd => 0
  | .status => statusWord s
  | .err => s.err
  | .devAddr => s.devAddr.setWidth 32
  | .slp => s.slp
  | .rawT => s.rawT.setWidth 32
  | .rawP => s.rawP.setWidth 32
  | .tFine => s.tFine
  | .temp => s.temp
  | .press => s.press
  | .press32 => s.press32
  | .alt => s.alt
  | .arg => s.arg
  | .res => s.res
  | .cal i => if s.calValid then calExtend s.cal i else 0

/-- R61, R62: what a host read at an offset returns; reserved offsets read 0. -/
def portValue (off : Byte) (s : State) : Word :=
  match regAt off with
  | some r => regValue r s
  | none => 0

/-- R63: the byte a byte-carrying host bus sees at an offset: bits 7:0 of the register at `off & 0xFC`,
bits 31:24 at that offset + 3. -/
def portByte (off : Byte) (s : State) : Byte :=
  (portValue off s).extractLsb' (8 * (off.toNat % 4)) 8

/-- R64: a host read returns the register's value and changes nothing else. -/
def hostRead (off : Byte) (s : State) : State := { s with portData := portValue off s }

/-- R39: DEV_ADDR is locked while BUSY = 1 or SEQ_STATE = READY. -/
def devAddrLocked (s : State) : Bool := s.busy || s.seqState = .ready

/-- A write to a register (R21–R27, R39–R42, R48).  Read-only registers take no write and set no IGN. -/
def regWrite (r : HostReg) (v : Word) (s : State) : State :=
  match r with
  | .ctrl => { s with ie := v.getLsbD 0 }
  | .cmd => if s.busy then ignoreWrite s else accept v s
  | .status => ackStatus v s
  | .devAddr => if devAddrLocked s then ignoreWrite s else { s with devAddr := v.setWidth 7 }
  | .slp => if s.busy then ignoreWrite s else { s with slp := v }
  | .rawT => if s.busy then ignoreWrite s else { s with rawT := v.setWidth 20 }
  | .rawP => if s.busy then ignoreWrite s else { s with rawP := v.setWidth 20 }
  | .arg => if s.busy then ignoreWrite s else { s with arg := v }
  | .err | .tFine | .temp | .press | .press32 | .alt | .res | .cal _ => s

/-- R61, R62: a host write at an offset; a reserved offset takes no write and sets no IGN. -/
def hostWrite (off : Byte) (v : Word) (s : State) : State :=
  match regAt off with
  | some r => regWrite r v s
  | none => s

end Sys2Proof.Machine
end

