-- ==== Sys2Proof/Machine/Engine.lean ====
section
/-! DEFINITION. The engine's DECODE step (40_sequencer.md R104) and what each event of the total order of
20_memory.md R72 does. -/

namespace Sys2Proof.Machine

/-- R104: DECODE.  An illegal word completes with ILLEGAL_COMMAND (R85); a command runs from its start. -/
def decodeStep (s : State) : Out :=
  match decode s.cmdl with
  | .ok i => exec i s
  | .error _ => .next (completeIllegal s)

/-- The engine's move when no answer has come: DECODE if a command was just accepted.  Idle, or waiting
for an answer, it stays where it is (R101, R232). -/
def engineTurn (s : State) : Out :=
  match s.seqStep with
  | .decode => decodeStep s
  | _ => .next s

/-- What an event does; `s` no longer holds it in its schedule. -/
def handleEvent (e : Event) (s : State) : Out :=
  match e with
  | .engine => engineTurn s
  | .answer a => .next (consumeAnswer a s)
  | .lateAnswer _ => .next s
  | .hostRead off => .next (hostRead off s)
  | .hostWrite off v => .next (hostWrite off v s)
  | .reset => .next (applyReset s)

end Sys2Proof.Machine
end

