-- ==== Sys2Proof/Machine/Step.lean ====
section
/-! DEFINITION. One step of the machine, and how the host places a command word before it. -/

namespace Sys2Proof.Machine

/-- One event of the total order (20_memory.md R72).  With no event scheduled the engine moves by itself,
so a command whose transaction is never answered stays where it is, with BUSY = 1 (R101; log entry 2). -/
def step (s : State) : Host.Outcome State Fault Refusal :=
  match s.inputs with
  | [] => engineTurn s
  | e :: rest => handleEvent e (setInputs rest s)

/-- BPCE fetches nothing (R76): a command comes by a host write to CMD.  This is `s` with that write of
`w` accepted (R104) and the next event the engine's DECODE step (log entry 12). -/
def State.withFetchWord (s : State) (nbits w : Nat) : State :=
  setInputs (.engine :: s.inputs) (accept (BitVec.ofNat 32 (w % 2 ^ nbits)) s)

end Sys2Proof.Machine
end

