-- ==== Sys2Proof/Safety.lean ====
section
/-! DEFINITION. The terms the statements are written in: what a completed command leaves, what reset
leaves, the invariant of the machine, the sequencer's transition table, the sensor accesses that may
occur, and the compensation formulas on machine words. -/

namespace Sys2Proof.Machine

/-- The completion record of R38 by its bit positions: OP in 23:16, IDX in 11:8, CODE in 7:0. -/
def completionRecord (cmdl : Word) (idx code : Nat) : Word :=
  BitVec.ofNat 32 (cmdl.toNat % 256 * 2 ^ 16 + idx * 2 ^ 8 + code)

/-- `s` after `complete(code, idx)` (R200): five pieces of state written, everything else kept. -/
def completed (s : State) (idx code : Nat) : State :=
  { s with
    err := completionRecord s.cmdl idx code
    busy := false
    done := true
    seqStep := .idle
    busreq := none }

/-- `s` waiting at `p` for the answer to `r` (R101): three pieces of state written, everything else kept. -/
def awaiting (s : State) (r : BusReq) (p : SeqStep) : State :=
  { s with busreq := some r, seqStep := p, busLog := r :: s.busLog }

/-- R56, as the host and the hidden state show it.  Nothing is said of what CMDL, SHADOW and the stored
CAL hold: the spec leaves them unspecified. -/
structure AfterReset (t : State) : Prop where
  ctrl : portValue 0x00 t = 0x00000000
  status : portValue 0x08 t = 0x00000000
  err : portValue 0x0C t = 0x00000000
  devAddr : portValue 0x10 t = Config.devAddrReset.setWidth 32
  slp : portValue 0x14 t = 0x018BCD00
  rawT : portValue 0x18 t = 0
  rawP : portValue 0x1C t = 0
  tFine : portValue 0x20 t = 0
  temp : portValue 0x24 t = 0
  press : portValue 0x28 t = 0
  press32 : portValue 0x2C t = 0
  alt : portValue 0x30 t = 0
  arg : portValue 0x34 t = 0
  res : portValue 0x38 t = 0
  cal : ∀ i : Fin 12, portValue (BitVec.ofNat 8 (0x40 + 4 * i.val)) t = 0
  seqStep : t.seqStep = .idle
  busreq : t.busreq = none
  busOpen : t.busOpen = false

/-- The transaction in flight at each position (R65, R103, R106–R109). -/
def awaitedReq (p : SeqStep) (dev : DevAddr) : Option BusReq :=
  match p with
  | .idle | .decode => none
  | .initOpen => some (.openDev dev)
  | .initRead i => some (.rd dev (BitVec.ofNat 8 (0x88 + 2 * i.val)) .two)
  | .initWrite => some (.wr dev 0xF4 0x27)
  | .readT => some (.rd dev 0xFA .three)
  | .readP | .readAlt => some (.rd dev 0xF7 .three)

/-- The sequencer states possible at each position (R28, R106–R109, R111). -/
def seqAllowed (p : SeqStep) (q : SeqState) : Prop :=
  match p with
  | .idle | .decode => q = .uninit ∨ q = .ready ∨ q = .failed
  | .initOpen => q = .uninit
  | .initRead _ => q = .busOpen
  | .initWrite => q = .calibrated
  | .readT | .readP | .readAlt => q = .ready

/-- What BUS_OPEN and CAL_VALID are in each sequencer state (R29, R30). -/
def linkAllowed (q : SeqState) (busOpen calValid : Bool) : Prop :=
  match q with
  | .uninit => busOpen = false ∧ calValid = false
  | .busOpen => busOpen = true ∧ calValid = false
  | .calibrated | .ready => busOpen = true ∧ calValid = true
  | .failed => calValid = true → busOpen = true

/-- R38, R201, R203: a word ERR can hold: a listed code other than 0x03, and an index 0..11 only beside
CALIBRATION_READ_ERROR. -/
def LegalRecord (w : Word) : Prop :=
  ∃ op idx code : Nat, op < 256 ∧ w = BitVec.ofNat 32 (op * 2 ^ 16 + idx * 2 ^ 8 + code) ∧
    ((code = 0x04 ∧ idx ≤ 11) ∨
      (code ∈ [0x00, 0x01, 0x02, 0x05, 0x06, 0x10, 0x11, 0x12, 0x13] ∧ idx = 0))

/-- The invariant of the machine. -/
structure Inv (s : State) : Prop where
  /-- R52: STEP is IDLE exactly while BUSY = 0 -/
  busy_iff : s.busy = true ↔ s.seqStep ≠ .idle
  /-- R26: a running command has DONE = 0 -/
  done_clear : s.busy = true → s.done = false
  /-- R54, R71, R103: the transaction in flight is the one the position waits for -/
  req : s.busreq = awaitedReq s.seqStep s.devAddr
  /-- R28: BUSOPEN and CALIBRATED only while INIT runs -/
  seq : seqAllowed s.seqStep s.seqState
  /-- R29, R30 -/
  link : linkAllowed s.seqState s.busOpen s.calValid
  /-- R31–R34, R36: the results of a calibration epoch are marked only in READY -/
  epoch : (s.tvalid || s.pvalid || s.p32valid || s.avalid || s.psent) = true → s.seqState = .ready
  /-- R108, R109: a pressure read is in flight only with a valid T_FINE -/
  tfine : s.seqStep = .readP ∨ s.seqStep = .readAlt → s.tvalid = true
  /-- R109, R179: READ_ALT's altitude stage runs only with SLP ≠ 0 -/
  slp : s.seqStep = .readAlt → s.slp ≠ 0
  /-- R205: the running read's own valid bits are 0 -/
  ownT : s.seqStep = .readT → s.tvalid = false
  ownP : s.seqStep = .readP ∨ s.seqStep = .readAlt → s.pvalid = false ∧ s.psent = false
  ownA : s.seqStep = .readAlt → s.avalid = false
  /-- R38, R201 -/
  record : LegalRecord s.err

/-- R43, R44, R141, R143: T_FINE is in compT's range and TEMP is its conversion. -/
structure TempInv (s : State) : Prop where
  low : -4194224 ≤ s.tFine.toInt
  high : s.tFine.toInt ≤ 4194144
  temp : s.temp.toInt = (s.tFine.toInt * 5 + 128) / 256

/-- R111: SEQ_STATE after the next event, read off the table. -/
def seqAfter (s : State) : SeqState :=
  match s.inputs with
  | .reset :: _ => .uninit
  | .answer a :: _ =>
    match s.seqStep, a with
    | .initOpen, .ok _ _ _ => .busOpen
    | .initOpen, .fail => .failed
    | .initRead i, .ok _ _ _ => if i = 11 then .calibrated else s.seqState
    | .initRead _, .fail => .failed
    | .initWrite, .ok _ _ _ => .ready
    | .initWrite, .fail => .failed
    | _, _ => s.seqState
  | .engine :: _ | [] => if s.seqStep = .decode ∧ s.cmdl = 0x00000001 then .uninit else s.seqState
  | _ => s.seqState

/-- R65, R100: the transactions BPCE can issue to a device. -/
def AllowedReq (dev : DevAddr) (r : BusReq) : Prop :=
  r = .openDev dev ∨
  (∃ i : Fin 12, r = .rd dev (BitVec.ofNat 8 (0x88 + 2 * i.val)) .two) ∨
  r = .wr dev 0xF4 0x27 ∨ r = .rd dev 0xF7 .three ∨ r = .rd dev 0xFA .three

/-- Events that neither answer a transaction nor reset the machine (R101, R248). -/
def noAnswer (e : Event) : Bool :=
  match e with
  | .answer _ | .reset => false
  | .engine | .lateAnswer _ | .hostRead _ | .hostWrite _ _ => true

/-- R106, R113: the answers of a whole successful INIT, field `i` given by its two bytes. -/
def initAnswers (lo hi : Fin 12 → Byte) : List Event :=
  .answer (.ok 0 0 0) :: (List.ofFn fun i => .answer (.ok (lo i) (hi i) 0)) ++ [.answer (.ok 0 0 0)]

/-- R106: the transactions of a whole INIT on device `dev`, newest first. -/
def initLog (dev : DevAddr) : List BusReq :=
  .wr dev 0xF4 0x27 ::
    ((List.finRange 12).reverse.map fun i => .rd dev (BitVec.ofNat 8 (0x88 + 2 * i.val)) .two) ++
    [.openDev dev]

/-- The §8 calibration of 95_test_vectors.md, on which the examples of the command rules stand. -/
def section8Cal : CalTable where
  t1 := 27504
  t2 := 26435
  t3 := BitVec.ofInt 16 (-1000)
  p1 := 36477
  p2 := BitVec.ofInt 16 (-10685)
  p3 := 3024
  p4 := 2855
  p5 := 140
  p6 := BitVec.ofInt 16 (-7)
  p7 := 15500
  p8 := BitVec.ofInt 16 (-14600)
  p9 := 6000

/-- R210, positions 2 to 5: the code of the first check that fails at DECODE, if any. -/
def firstFailure (i : Instr) (s : State) : Option Nat :=
  let needsReady := [Instr.readT, .readP, .readAlt, .compT, .compP, .compP32, .alt].contains i
  let needsTFine := [Instr.readP, .readAlt, .compP, .compP32].contains i
  let outside :=
    match i with
    | .alt | .readAlt => decide (s.slp = 0)
    | .log2 => decide (s.arg = 0)
    | .exp2 => decide (8 * 2 ^ 24 ≤ s.arg.toInt)
    | .nop | .init | .readT | .readP | .compT | .compP | .compP32 => false
  if needsReady && decide (s.seqState ≠ .ready) then some 0x06
  else if needsTFine && !s.tvalid then some 0x11
  else if decide (i = .alt) && !s.pvalid then some 0x12
  else if outside then some 0x13
  else none

/-- R205: the valid bits of the outputs a command would have written are 0 in `t`. -/
def outputsInvalid (i : Instr) (t : State) : Prop :=
  match i with
  | .nop => True
  | .init => t.calValid = false ∧ t.tvalid = false ∧ t.pvalid = false ∧ t.p32valid = false ∧ t.avalid = false
  | .readT | .compT => t.tvalid = false
  | .readP | .compP => t.pvalid = false
  | .readAlt => t.pvalid = false ∧ t.avalid = false
  | .compP32 => t.p32valid = false
  | .alt => t.avalid = false
  | .log2 | .exp2 => t.rvalid = false

/-- The data registers a command can write are the same in `s` and `t` (R205). -/
def sameData (s t : State) : Prop :=
  t.rawT = s.rawT ∧ t.rawP = s.rawP ∧ t.tFine = s.tFine ∧ t.temp = s.temp ∧ t.press = s.press ∧
    t.press32 = s.press32 ∧ t.alt = s.alt ∧ t.res = s.res

/-- CTRL.IE and the stored flags of STATUS (R22, R24). -/
structure Flags where
  ie : Bool
  busy : Bool
  done : Bool
  ign : Bool
  seqState : SeqState
  busOpen : Bool
  calValid : Bool
  tvalid : Bool
  pvalid : Bool
  p32valid : Bool
  avalid : Bool
  rvalid : Bool
  psent : Bool
  deriving DecidableEq, Repr

/-- The flags a state holds. -/
def flagsOf (s : State) : Flags where
  ie := s.ie
  busy := s.busy
  done := s.done
  ign := s.ign
  seqState := s.seqState
  busOpen := s.busOpen
  calValid := s.calValid
  tvalid := s.tvalid
  pvalid := s.pvalid
  p32valid := s.p32valid
  avalid := s.avalid
  rvalid := s.rvalid
  psent := s.psent

/-- `s` with its flags replaced by those of `f`, everything else kept. -/
def withFlags (f : Flags) (s : State) : State :=
  { s with
    ie := f.ie
    busy := f.busy
    done := f.done
    ign := f.ign
    seqState := f.seqState
    busOpen := f.busOpen
    calValid := f.calValid
    tvalid := f.tvalid
    pvalid := f.pvalid
    p32valid := f.p32valid
    avalid := f.avalid
    rvalid := f.rvalid
    psent := f.psent }

/-- R58: `f` and `g` agree on the flags that command `i` checks. -/
def checkedAgree (i : Instr) (f g : Flags) : Prop :=
  (i ∈ [Instr.readP, .compP, .compP32, .readAlt] → f.tvalid = g.tvalid) ∧
  (i = .alt → f.pvalid = g.pvalid) ∧
  (i ∉ [Instr.nop, .init, .log2, .exp2] → f.seqState = g.seqState)

/-- One flag over two runs: written alike in both (`t' = t`), or untouched in both (`s` to `t`, `s'` to
`t'`). -/
def writtenOrKept {α : Type} (s s' t t' : α) : Prop := t' = t ∨ (t = s ∧ t' = s')

/-- No flag steered the work: from `s` to `t`, and from `s` with the flags `f` to `t'`, everything that is
no flag became the same, and each flag was written alike or kept in both. -/
structure SameWork (f : Flags) (s t t' : State) : Prop where
  work : t' = withFlags (flagsOf t') t
  ie : writtenOrKept s.ie f.ie t.ie t'.ie
  busy : writtenOrKept s.busy f.busy t.busy t'.busy
  done : writtenOrKept s.done f.done t.done t'.done
  ign : writtenOrKept s.ign f.ign t.ign t'.ign
  seqState : writtenOrKept s.seqState f.seqState t.seqState t'.seqState
  busOpen : writtenOrKept s.busOpen f.busOpen t.busOpen t'.busOpen
  calValid : writtenOrKept s.calValid f.calValid t.calValid t'.calValid
  tvalid : writtenOrKept s.tvalid f.tvalid t.tvalid t'.tvalid
  pvalid : writtenOrKept s.pvalid f.pvalid t.pvalid t'.pvalid
  p32valid : writtenOrKept s.p32valid f.p32valid t.p32valid t'.p32valid
  avalid : writtenOrKept s.avalid f.avalid t.avalid t'.avalid
  rvalid : writtenOrKept s.rvalid f.rvalid t.rvalid t'.rvalid
  psent : writtenOrKept s.psent f.psent t.psent t'.psent

/-- R144 on 64-bit two's-complement words: every `+ - * <<` is the word operation, `>>s` the arithmetic
shift, the division the truncating signed one (decision D19). -/
def wordP64 (tf : Word) (raw : Raw) (c : CalTable) : Word × Bool :=
  let v : BitVec 64 := tf.signExtend 64 - 128000#64
  let o := v * v * c.p6.signExtend 64
  let o := o + ((v * c.p5.signExtend 64) <<< 17)
  let o := o + (c.p4.signExtend 64 <<< 35)
  let d := (v * v * c.p3.signExtend 64).sshiftRight 8 + ((v * c.p2.signExtend 64) <<< 12)
  let d := (((1#64 <<< 47) + d) * c.p1.setWidth 64).sshiftRight 33
  if d = 0#64 then (0, true)
  else
    let p := 1048576#64 - raw.setWidth 64
    let p := (((p <<< 31) - o) * 3125#64).sdiv d
    let x := (c.p9.signExtend 64 * p.sshiftRight 13 * p.sshiftRight 13).sshiftRight 25
    let y := (c.p8.signExtend 64 * p).sshiftRight 19
    let p := (p + x + y).sshiftRight 8 + (c.p7.signExtend 64 <<< 4)
    (p.setWidth 32, false)

/-- R148 on 32-bit words: s32 and u32 operations are the same word operation, `>>s` the arithmetic
shift, `>>u` the logical one, the division the unsigned one (decision D20). -/
def wordP32 (tf : Word) (raw : Raw) (c : CalTable) : Word × Bool :=
  let v : Word := tf.sshiftRight 1 - 64000#32
  let q := v.sshiftRight 2 * v.sshiftRight 2
  let o := q.sshiftRight 11 * c.p6.signExtend 32
  let o := o + ((v * c.p5.signExtend 32) <<< 1)
  let o := o.sshiftRight 2 + (c.p4.signExtend 32 <<< 16)
  let d := ((c.p3.signExtend 32 * q.sshiftRight 13).sshiftRight 3 +
    (c.p2.signExtend 32 * v).sshiftRight 1).sshiftRight 18
  let d := ((32768#32 + d) * c.p1.setWidth 32).sshiftRight 15
  if d = 0#32 then (0, true)
  else
    let p := (1048576#32 - raw.setWidth 32 - o.sshiftRight 12) * 3125#32
    let p := if p < 0x80000000#32 then (p <<< 1).udiv d else p.udiv d * 2#32
    let x := (c.p9.signExtend 32 * (((p >>> 3) * (p >>> 3)) >>> 13)).sshiftRight 12
    let y := ((p >>> 2) * c.p8.signExtend 32).sshiftRight 13
    (p + (x + y + c.p7.signExtend 32).sshiftRight 4, false)

end Sys2Proof.Machine
end

