-- ==== Sys2Proof/Certificates/Slice0/Obligations.lean ====
section
/-! DEFINITION. The statements for the provers.  Each docstring names the rule of spec/ it formalises.
Frames are written as equalities of states: `exec i s = .next { s with … }` says that every piece of
state not named keeps its value.  `inputs`, `busLog`, `portData` and `draws` are the model's own fields
(log entries 1, 7, 8, 9): a premise about `inputs` says which event of R72's total order comes next. -/

open Sys2Proof Sys2Proof.Machine

/-! ## Reset -/

/-- R56: the values after reset, for every piece of state the rule gives a value. -/
def Obligations.ResetGivesTheStatedValues : Prop := AfterReset State.reset

/-- R230, R231: reset at any moment, also while a command runs, leaves the reset values, issues no
transaction, and the answer of the abandoned transaction is discarded. -/
def Obligations.ResetAbandonsTheRunningCommand : Prop :=
  ∀ (s : State) (rest : List Event), s.inputs = .reset :: rest →
    ∃ t, step s = .next t ∧ AfterReset t ∧ t.done = false ∧ t.inputs = rest ∧ t.busLog = s.busLog ∧
      ∀ (a : BusAnswer) (rest' : List Event),
        step { t with inputs := .answer a :: rest' } = .next { t with inputs := rest' } ∧
        step { t with inputs := .lateAnswer a :: rest' } = .next { t with inputs := rest' }

/-! ## Encoding and decoding -/

/-- R83: the eleven command words. -/
def Obligations.OpcodeWordsDecode : Prop :=
  decode 0x00000000 = .ok .nop ∧ decode 0x00000001 = .ok .init ∧ decode 0x00000002 = .ok .readT ∧
  decode 0x00000003 = .ok .readP ∧ decode 0x00000004 = .ok .readAlt ∧
  decode 0x00000010 = .ok .compT ∧ decode 0x00000011 = .ok .compP ∧
  decode 0x00000012 = .ok .compP32 ∧ decode 0x00000020 = .ok .alt ∧
  decode 0x00000021 = .ok .log2 ∧ decode 0x00000022 = .ok .exp2

/-- R86: on all 2^32 words the decoder answers a command exactly for that command's word, RSV ≠ 0 is
refused as such whatever OPC is, every other refused word has an unassigned OPC, and a byte stream gives
the command back with the bytes after it. -/
def Obligations.DecodeAndEncodeAgree : Prop :=
  (∀ (w : Word) (i : Instr), decode w = .ok i ↔ w = encode i) ∧
  (∀ w : Word, decode w = .error .reservedBits ↔ 256 ≤ w.toNat) ∧
  (∀ w : Word, decode w = .error .unassignedOpcode ↔ w.toNat < 256 ∧ legalWord w = false) ∧
  (∀ (i : Instr) (rest : List Byte), decodeBytes (bytesOfWord (encode i) ++ rest) = .ok (i, rest))

/-! ## Acceptance and the DECODE step -/

/-- R23: CMD reads 0; a write while BUSY = 0 latches the word and starts it; a write while BUSY = 1 sets
IGN and changes nothing else. -/
def Obligations.CommandWriteAcceptedOrIgnored : Prop :=
  ∀ (s : State) (off : Byte) (w : Word), off.toNat / 4 = 1 →
    portValue off s = 0 ∧
    (s.busy = false →
      hostWrite off w s = { s with cmdl := w, busy := true, done := false, seqStep := .decode }) ∧
    (s.busy = true → hostWrite off w s = { s with ign := true })

/-- R104: when the engine moves at DECODE and CMDL decodes to a command, the step is `exec` of that
command; around it the step only takes the event off the schedule. -/
def Obligations.StepRunsTheDecodedCommand : Prop :=
  ∀ (s : State) (i : Instr), (s.inputs = [] ∨ s.inputs.head? = some .engine) →
    s.seqStep = .decode → decode s.cmdl = .ok i →
    step s = exec i { s with inputs := s.inputs.tail }

/-- R85: DECODE of an illegal word completes with ILLEGAL_COMMAND and ERR.OP = CMDL[7:0], and changes
nothing else. -/
def Obligations.IllegalWordCompletes : Prop :=
  ∀ s : State, (s.inputs = [] ∨ s.inputs.head? = some .engine) →
    s.seqStep = .decode → legalWord s.cmdl = false →
    step s = .next (completed { s with inputs := s.inputs.tail } 0 0x10)

/-! ## The commands of the bus sequencer -/

/-- R105: NOP. -/
def Obligations.NopCompletesWithNone : Prop :=
  decode 0x00000000 = .ok .nop ∧
  (∀ s : State, exec .nop s = .next (completed s 0 0x00)) ∧
  (∀ s : State, s.cmdl = 0 → completionRecord s.cmdl 0 0x00 = 0x00000000)

/-- R106, R233: INIT's DECODE step.  It issues OPEN, in every SEQ_STATE; what CAL stores from then on is
unspecified (U8; log entry 6), so `c` and the counter `d` are left open. -/
def Obligations.InitStartsTheSequence : Prop :=
  decode 0x00000001 = .ok .init ∧
  ∀ s : State, ∃ c d,
    exec .init s = .next (awaiting
      { s with
        calValid := false, tvalid := false, pvalid := false, p32valid := false, avalid := false,
        psent := false, busOpen := false, seqState := .uninit, cal := c, draws := d }
      (.openDev s.devAddr) .initOpen)

/-- R106, R113: from any idle state, in any SEQ_STATE, the CMD write, DECODE and fourteen ok answers take
INIT to READY: the twelve words are the bytes the oracle gave, T1 and P1 unsigned and the others signed,
the completion is NONE, the transactions are the fourteen of R65 in order, and DEV_ADDR, SLP, the data
registers, RVALID and IGN are as before.  One schedule: no host access comes between, and the answer bytes
that no transaction uses are 0. -/
def Obligations.InitReachesReady : Prop :=
  ∀ (s : State) (lo hi : Fin 12 → Byte) (rest : List Event), s.busy = false →
    s.inputs = .hostWrite 0x04 0x00000001 :: .engine :: (initAnswers lo hi ++ rest) →
    ∃ t, Host.Core.run core 16 s = .next t ∧
      t.seqState = .ready ∧ t.busOpen = true ∧ t.calValid = true ∧
      t.busy = false ∧ t.done = true ∧ t.err = 0x00010000 ∧ t.busreq = none ∧
      (∀ i : Fin 12, portValue (BitVec.ofNat 8 (0x40 + 4 * i.val)) t =
        if i = 0 ∨ i = 3 then (hi i ++ lo i).setWidth 32 else (hi i ++ lo i).signExtend 32) ∧
      t.busLog = initLog s.devAddr ++ s.busLog ∧ t.inputs = rest ∧
      t.tvalid = false ∧ t.pvalid = false ∧ t.p32valid = false ∧ t.avalid = false ∧ t.psent = false ∧
      t.devAddr = s.devAddr ∧ t.slp = s.slp ∧ sameData s t ∧ t.rvalid = s.rvalid ∧ t.ign = s.ign

/-- R106, R202: whichever of the twelve calibration reads fails, INIT ends there in FAILED with
CALIBRATION_READ_ERROR and its index, the bus open, every CAL register reading 0, and no transaction
after the failing one. -/
def Obligations.InitFailsAtAnyCalibrationRead : Prop :=
  ∀ (s : State) (k : Fin 12) (b : Fin 12 → Byte × Byte) (rest : List Event), s.busy = false →
    s.inputs = .hostWrite 0x04 0x00000001 :: .engine :: .answer (.ok 0 0 0) ::
      ((List.finRange 12).take k.val).map (fun i => Event.answer (.ok (b i).1 (b i).2 0)) ++
      .answer .fail :: rest →
    ∃ t, Host.Core.run core (k.val + 4) s = .next t ∧
      t.seqState = .failed ∧ t.busOpen = true ∧ t.calValid = false ∧ t.busy = false ∧ t.done = true ∧
      t.err = BitVec.ofNat 32 (0x00010004 + k.val * 256) ∧
      (∀ i : Fin 12, portValue (BitVec.ofNat 8 (0x40 + 4 * i.val)) t = 0) ∧
      t.busLog.length = s.busLog.length + 2 + k.val ∧ t.inputs = rest

/-- R106, R201: a failed OPEN ends INIT in FAILED with BUS_UNAVAILABLE and the bus closed; a failed mode
write ends it in FAILED with CONFIGURATION_ERROR.  What SHADOW holds after it is unspecified (U8; log
entry 5), so `c` and `d` are left open; everything else is as it was, the committed table among it. -/
def Obligations.InitFailsAtOpenOrModeWrite : Prop :=
  ∀ (s : State) (rest : List Event), s.inputs = .answer .fail :: rest → s.busreq.isSome = true →
    (s.seqStep = .initOpen → ∃ c d,
      step s = .next (completed
        { s with inputs := rest, seqState := .failed, shadow := c, draws := d } 0 0x01)) ∧
    (s.seqStep = .initWrite → ∃ c d,
      step s = .next (completed
        { s with inputs := rest, seqState := .failed, shadow := c, draws := d } 0 0x05))

/-- R106, R110: the step of INIT that consumes each ok answer, and a failing calibration read, from every
state that waits for it, so with any host accesses between.  Calibration read `i` writes SHADOW[i] alone and
issues the next read; the twelfth commits all twelve values in that one step and issues the mode write.
What SHADOW holds after a failed INIT is unspecified (U8; log entry 5), so `c` and `d` are left open. -/
def Obligations.InitStepsFollowTheSequence : Prop :=
  (∀ (s : State) (rest : List Event) (b0 b1 b2 : Byte), s.busreq.isSome = true →
    s.inputs = .answer (.ok b0 b1 b2) :: rest →
    (s.seqStep = .initOpen → step s = .next (awaiting
      { s with inputs := rest, busOpen := true, seqState := .busOpen }
      (.rd s.devAddr 0x88 .two) (.initRead 0))) ∧
    (∀ (i : Fin 12) (hi : i.val + 1 < 12), s.seqStep = .initRead i → step s = .next (awaiting
      { s with inputs := rest, shadow := calSet s.shadow i (b1 ++ b0) }
      (.rd s.devAddr (BitVec.ofNat 8 (0x88 + 2 * (i.val + 1))) .two) (.initRead ⟨i.val + 1, hi⟩))) ∧
    (s.seqStep = .initRead 11 → step s = .next (awaiting
      { s with
        inputs := rest
        shadow := calSet s.shadow 11 (b1 ++ b0)
        cal := calSet s.shadow 11 (b1 ++ b0)
        calValid := true
        seqState := .calibrated }
      (.wr s.devAddr 0xF4 0x27) .initWrite)) ∧
    (s.seqStep = .initWrite →
      step s = .next (completed { s with inputs := rest, seqState := .ready } 0 0x00))) ∧
  (∀ (s : State) (rest : List Event) (i : Fin 12), s.busreq.isSome = true →
    s.inputs = .answer .fail :: rest → s.seqStep = .initRead i → ∃ c d,
      step s = .next (completed
        { s with inputs := rest, seqState := .failed, shadow := c, draws := d } i.val 0x04)) ∧
  (∀ (c : CalTable) (i j : Fin 12) (v : Half), calGet (calSet c i v) j = if j = i then v else calGet c j) ∧
  (∀ c : CalTable, (List.finRange 12).map (calGet c) =
    [c.t1, c.t2, c.t3, c.p1, c.p2, c.p3, c.p4, c.p5, c.p6, c.p7, c.p8, c.p9])

/-- R107: READ_T. -/
def Obligations.ReadTFetchesAndCompensates : Prop :=
  decode 0x00000002 = .ok .readT ∧
  (∀ s : State, s.seqState ≠ .ready →
    exec .readT s = .next (completed { s with tvalid := false } 0 0x06)) ∧
  (∀ s : State, s.seqState = .ready →
    exec .readT s = .next (awaiting { s with tvalid := false } (.rd s.devAddr 0xFA .three) .readT)) ∧
  (∀ (s : State) (rest : List Event), s.busreq.isSome = true → s.seqStep = .readT →
    (s.inputs = .answer .fail :: rest →
      step s = .next (completed { s with inputs := rest } 0 0x02)) ∧
    (∀ b0 b1 b2 : Byte, s.inputs = .answer (.ok b0 b1 b2) :: rest →
      step s = .next (completed
        { s with
          inputs := rest
          rawT := raw20 b0 b1 b2
          tFine := BitVec.ofInt 32 (compT (raw20 b0 b1 b2) s.cal.t1 s.cal.t2 s.cal.t3)
          temp := BitVec.ofInt 32 (temp100 (compT (raw20 b0 b1 b2) s.cal.t1 s.cal.t2 s.cal.t3))
          tvalid := true } 0 0x00))) ∧
  raw20 0x7E 0xED 0x00 = 519888 ∧
  compT 519888 section8Cal.t1 section8Cal.t2 section8Cal.t3 = 128422 ∧ temp100 128422 = 2508

/-- R108: READ_P. -/
def Obligations.ReadPFetchesAndCompensates : Prop :=
  decode 0x00000003 = .ok .readP ∧
  (∀ s : State, s.seqState ≠ .ready →
    exec .readP s = .next (completed { s with pvalid := false, psent := false } 0 0x06)) ∧
  (∀ s : State, s.seqState = .ready → s.tvalid = false →
    exec .readP s = .next (completed { s with pvalid := false, psent := false } 0 0x11)) ∧
  (∀ s : State, s.seqState = .ready → s.tvalid = true →
    exec .readP s = .next (awaiting { s with pvalid := false, psent := false }
      (.rd s.devAddr 0xF7 .three) .readP)) ∧
  (∀ (s : State) (rest : List Event), s.busreq.isSome = true → s.seqStep = .readP →
    (s.inputs = .answer .fail :: rest →
      step s = .next (completed { s with inputs := rest } 0 0x02)) ∧
    (∀ b0 b1 b2 : Byte, s.inputs = .answer (.ok b0 b1 b2) :: rest →
      step s = .next (completed
        { s with
          inputs := rest
          rawP := raw20 b0 b1 b2
          press := (compP64 s.tFine (raw20 b0 b1 b2) s.cal).1
          psent := (compP64 s.tFine (raw20 b0 b1 b2) s.cal).2
          pvalid := true } 0 0x00))) ∧
  (∀ tf raw c, divisor64 tf c = 0 → compP64 tf raw c = (0, true)) ∧
  raw20 0x65 0x5A 0xC0 = 415148 ∧ compP64 128422 415148 section8Cal = (25767233, false)

/-- R109: READ_ALT.  At its second step SLP ≠ 0 in every run (`Inv`, StepKeepsTheInvariant): DECODE
checked it and the lock keeps it. -/
def Obligations.ReadAltFetchesAndConverts : Prop :=
  decode 0x00000004 = .ok .readAlt ∧
  (∀ s : State, s.seqState ≠ .ready →
    exec .readAlt s =
      .next (completed { s with pvalid := false, avalid := false, psent := false } 0 0x06)) ∧
  (∀ s : State, s.seqState = .ready → s.tvalid = false →
    exec .readAlt s =
      .next (completed { s with pvalid := false, avalid := false, psent := false } 0 0x11)) ∧
  (∀ s : State, s.seqState = .ready → s.tvalid = true → s.slp = 0 →
    exec .readAlt s =
      .next (completed { s with pvalid := false, avalid := false, psent := false } 0 0x13)) ∧
  (∀ s : State, s.seqState = .ready → s.tvalid = true → s.slp ≠ 0 →
    exec .readAlt s = .next (awaiting { s with pvalid := false, avalid := false, psent := false }
      (.rd s.devAddr 0xF7 .three) .readAlt)) ∧
  (∀ (s : State) (rest : List Event), s.busreq.isSome = true → s.seqStep = .readAlt →
    (s.inputs = .answer .fail :: rest →
      step s = .next (completed { s with inputs := rest } 0 0x02)) ∧
    (∀ b0 b1 b2 : Byte, s.slp ≠ 0 → s.inputs = .answer (.ok b0 b1 b2) :: rest →
      step s = .next (completed
        { s with
          inputs := rest
          rawP := raw20 b0 b1 b2
          press := (compP64 s.tFine (raw20 b0 b1 b2) s.cal).1
          psent := (compP64 s.tFine (raw20 b0 b1 b2) s.cal).2
          pvalid := true
          alt := BitVec.ofInt 32 (altfx (compP64 s.tFine (raw20 b0 b1 b2) s.cal).1 s.slp)
          avalid := true } 0 0x00))) ∧
  (∀ p : Word, p ≠ 0 → altfx 0 p = 11348480 ∧ altfx p p = 0) ∧
  altfx 25767233 25939200 = 14356

/-! ## The commands of the compensation pipeline -/

/-- R142: COMP_T. -/
def Obligations.CompTWritesTheTemperature : Prop :=
  decode 0x00000010 = .ok .compT ∧
  (∀ s : State, s.seqState ≠ .ready →
    exec .compT s = .next (completed { s with tvalid := false } 0 0x06)) ∧
  (∀ s : State, s.seqState = .ready →
    exec .compT s = .next (completed
      { s with
        tFine := BitVec.ofInt 32 (compT s.rawT s.cal.t1 s.cal.t2 s.cal.t3)
        temp := BitVec.ofInt 32 (temp100 (compT s.rawT s.cal.t1 s.cal.t2 s.cal.t3))
        tvalid := true } 0 0x00)) ∧
  (∀ raw t1, compT raw t1 0 0 = 0) ∧
  compT 0 section8Cal.t1 section8Cal.t2 section8Cal.t3 = -721301 ∧
  compT 400000 section8Cal.t1 section8Cal.t2 section8Cal.t3 = -64736 ∧
  compT 519888 section8Cal.t1 section8Cal.t2 section8Cal.t3 = 128422 ∧ temp100 128422 = 2508

/-- R145: COMP_P. -/
def Obligations.CompPWritesThePressure : Prop :=
  decode 0x00000011 = .ok .compP ∧
  (∀ s : State, s.seqState ≠ .ready →
    exec .compP s = .next (completed { s with pvalid := false, psent := false } 0 0x06)) ∧
  (∀ s : State, s.seqState = .ready → s.tvalid = false →
    exec .compP s = .next (completed { s with pvalid := false, psent := false } 0 0x11)) ∧
  (∀ s : State, s.seqState = .ready → s.tvalid = true →
    exec .compP s = .next (completed
      { s with
        press := (compP64 s.tFine s.rawP s.cal).1
        psent := (compP64 s.tFine s.rawP s.cal).2
        pvalid := true } 0 0x00)) ∧
  (∀ tf raw c, c.p1 = 0 → compP64 tf raw c = (0, true)) ∧
  compP64 128422 1048575 section8Cal = (0xFFE61920, false) ∧
  compP64 128422 415148 section8Cal = (25767233, false)

/-- R147: COMP_P32. -/
def Obligations.CompP32WritesThePressure : Prop :=
  decode 0x00000012 = .ok .compP32 ∧
  (∀ s : State, s.seqState ≠ .ready →
    exec .compP32 s = .next (completed { s with p32valid := false, psent := false } 0 0x06)) ∧
  (∀ s : State, s.seqState = .ready → s.tvalid = false →
    exec .compP32 s = .next (completed { s with p32valid := false, psent := false } 0 0x11)) ∧
  (∀ s : State, s.seqState = .ready → s.tvalid = true →
    exec .compP32 s = .next (completed
      { s with
        press32 := (compP32 s.tFine s.rawP s.cal).1
        psent := (compP32 s.tFine s.rawP s.cal).2
        p32valid := true } 0 0x00)) ∧
  (∀ p d : Int, (p < 2 ^ 31 → divide32 p d = p * 2 / d) ∧
    (2 ^ 31 ≤ p → divide32 p d = (p / d * 2) % 2 ^ 32)) ∧
  (∀ tf raw c, c.p1 = 0 → compP32 tf raw c = (0, true)) ∧
  compP32 128422 0 section8Cal = (173204, false) ∧
  compP32 128422 415148 section8Cal = (100656, false)

/-! ## The commands of the altitude engine -/

/-- R180: ALT.  (The rule's remark that PRESS > SLP gives a negative ALT is a statement of its own.) -/
def Obligations.AltWritesTheAltitude : Prop :=
  decode 0x00000020 = .ok .alt ∧
  (∀ s : State, s.seqState ≠ .ready →
    exec .alt s = .next (completed { s with avalid := false } 0 0x06)) ∧
  (∀ s : State, s.seqState = .ready → s.pvalid = false →
    exec .alt s = .next (completed { s with avalid := false } 0 0x12)) ∧
  (∀ s : State, s.seqState = .ready → s.pvalid = true → s.slp = 0 →
    exec .alt s = .next (completed { s with avalid := false } 0 0x13)) ∧
  (∀ s : State, s.seqState = .ready → s.pvalid = true → s.slp ≠ 0 →
    exec .alt s = .next (completed
      { s with alt := BitVec.ofInt 32 (altfx s.press s.slp), avalid := true } 0 0x00)) ∧
  altfx 25767233 25939200 = 14356 ∧ altfx 1 0xFFFFFFFF = 11181819 ∧ altfx 0xFFFFFFFF 1 = -761405690

/-- R177: LOG2, in every SEQ_STATE. -/
def Obligations.Log2WritesTheLogarithm : Prop :=
  decode 0x00000021 = .ok .log2 ∧
  (∀ s : State, s.arg = 0 → exec .log2 s = .next (completed { s with rvalid := false } 0 0x13)) ∧
  (∀ s : State, s.arg ≠ 0 →
    exec .log2 s = .next (completed
      { s with res := BitVec.ofNat 32 (log2fx s.arg), rvalid := true } 0 0x00)) ∧
  (∀ n : Fin 32, log2fx (BitVec.ofNat 32 (2 ^ n.val)) = n.val * 2 ^ 24) ∧
  log2fx 1 = 0 ∧ log2fx 0xFFFFFFFF = 0x1FFFFFFF ∧ log2fx 25939200 = 0x18A0EDF0

/-- R178: EXP2, in every SEQ_STATE. -/
def Obligations.Exp2WritesTheExponential : Prop :=
  decode 0x00000022 = .ok .exp2 ∧
  (∀ s : State, 8 ≤ s.arg.toInt / 2 ^ 24 →
    exec .exp2 s = .next (completed { s with rvalid := false } 0 0x13)) ∧
  (∀ s : State, s.arg.toInt / 2 ^ 24 < 8 →
    exec .exp2 s = .next (completed
      { s with res := BitVec.ofNat 32 (exp2fx s.arg.toInt), rvalid := true } 0 0x00)) ∧
  (∀ y : Int, y < -24 * 2 ^ 24 → exp2fx y = 0) ∧
  exp2fx (0xE8000000 : Word).toInt = 1 ∧ exp2fx (0x80000000 : Word).toInt = 0 ∧
  8 ≤ (0x08000000 : Word).toInt / 2 ^ 24 ∧ (0x07FFFFFF : Word).toInt / 2 ^ 24 < 8 ∧
  exp2fx 0x00800000 = 0x016A09E6

/-! ## The host register port -/

/-- R37, with the positions of R24: STATUS is the weighted sum of its fields, bit 16 being
CTRL.IE AND STATUS.DONE. -/
def Obligations.StatusReadsItsFields : Prop :=
  ∀ s : State, (portValue 0x08 s).toNat =
    s.busy.toNat + s.done.toNat * 2 + s.ign.toNat * 2 ^ 2 +
    (match s.seqState with
      | .uninit => 0 | .busOpen => 1 | .calibrated => 2 | .ready => 3 | .failed => 4) * 2 ^ 4 +
    s.busOpen.toNat * 2 ^ 8 + s.calValid.toNat * 2 ^ 9 + s.tvalid.toNat * 2 ^ 10 +
    s.pvalid.toNat * 2 ^ 11 + s.p32valid.toNat * 2 ^ 12 + s.avalid.toNat * 2 ^ 13 +
    s.rvalid.toNat * 2 ^ 14 + s.psent.toNat * 2 ^ 15 + (s.ie && s.done).toNat * 2 ^ 16

/-- R20, R22, R38–R49, R23: which content a read returns, at every offset of each word of the map but
STATUS (StatusReadsItsFields), CAL (CalibrationReads) and the reserved ones (ReservedOffsetsAndBits). -/
def Obligations.RegistersReadTheirContents : Prop :=
  ∀ (s : State) (off : Byte),
    (off.toNat / 4 = 0 → portValue off s = if s.ie = true then 1 else 0) ∧
    (off.toNat / 4 = 1 → portValue off s = 0) ∧
    (off.toNat / 4 = 3 → portValue off s = s.err) ∧
    (off.toNat / 4 = 4 → portValue off s = BitVec.ofNat 32 s.devAddr.toNat) ∧
    (off.toNat / 4 = 5 → portValue off s = s.slp) ∧
    (off.toNat / 4 = 6 → portValue off s = BitVec.ofNat 32 s.rawT.toNat) ∧
    (off.toNat / 4 = 7 → portValue off s = BitVec.ofNat 32 s.rawP.toNat) ∧
    (off.toNat / 4 = 8 → portValue off s = s.tFine) ∧
    (off.toNat / 4 = 9 → portValue off s = s.temp) ∧
    (off.toNat / 4 = 10 → portValue off s = s.press) ∧
    (off.toNat / 4 = 11 → portValue off s = s.press32) ∧
    (off.toNat / 4 = 12 → portValue off s = s.alt) ∧
    (off.toNat / 4 = 13 → portValue off s = s.arg) ∧
    (off.toNat / 4 = 14 → portValue off s = s.res)

/-- R64: a host read returns the register's current value (kept in the model's own `portData`, log
entry 8) and has no side effect: no register reads differently after it. -/
def Obligations.HostReadsHaveNoSideEffect : Prop :=
  ∀ (s : State) (off : Byte) (rest : List Event), s.inputs = .hostRead off :: rest →
    step s = .next { s with inputs := rest, portData := portValue off s } ∧
    ∀ off' : Byte, portValue off' { s with inputs := rest, portData := portValue off s } = portValue off' s

/-- R62: reserved offsets and reserved bits read 0; writes to them have no effect and set no IGN. -/
def Obligations.ReservedOffsetsAndBits : Prop :=
  (∀ (s : State) (off : Byte) (v : Word), (off.toNat / 4 = 15 ∨ 28 ≤ off.toNat / 4) →
    portValue off s = 0 ∧ hostWrite off v s = s) ∧
  (∀ s : State, (portValue 0x00 s).toNat < 2 ∧ (portValue 0x10 s).toNat < 2 ^ 7 ∧
    (portValue 0x18 s).toNat < 2 ^ 20 ∧ (portValue 0x1C s).toNat < 2 ^ 20 ∧
    (portValue 0x08 s).getLsbD 3 = false ∧ (portValue 0x08 s).getLsbD 7 = false ∧
    (portValue 0x08 s).toNat < 2 ^ 17) ∧
  (∀ s : State, LegalRecord s.err → (portValue 0x0C s).toNat < 2 ^ 24 ∧
    (portValue 0x0C s).toNat / 2 ^ 12 % 2 ^ 4 = 0) ∧
  (∀ (s : State) (v v' : Word),
    (v.getLsbD 0 = v'.getLsbD 0 → hostWrite 0x00 v s = hostWrite 0x00 v' s) ∧
    (v.getLsbD 1 = v'.getLsbD 1 → v.getLsbD 2 = v'.getLsbD 2 →
      hostWrite 0x08 v s = hostWrite 0x08 v' s) ∧
    (v.toNat % 2 ^ 7 = v'.toNat % 2 ^ 7 → hostWrite 0x10 v s = hostWrite 0x10 v' s) ∧
    (v.toNat % 2 ^ 20 = v'.toNat % 2 ^ 20 →
      hostWrite 0x18 v s = hostWrite 0x18 v' s ∧ hostWrite 0x1C v s = hostWrite 0x1C v' s))

/-- R61, R63, R214: offset bits 1:0 are ignored, neither a host write nor a host read stops the machine, at
any offset and in any state, and the bytes of a register lie little-endian at its offset. -/
def Obligations.PortOffsetsAndByteOrder : Prop :=
  (∀ (s : State) (off : Byte) (v : Word), portValue off s = portValue (off &&& 0xFC) s ∧
    hostWrite off v s = hostWrite (off &&& 0xFC) v s) ∧
  (∀ (s : State) (off : Byte) (v : Word) (rest : List Event),
    step { s with inputs := .hostWrite off v :: rest } = .next (hostWrite off v { s with inputs := rest }) ∧
    step { s with inputs := .hostRead off :: rest } = .next (hostRead off { s with inputs := rest })) ∧
  (∀ (s : State) (off : Byte), portValue off s =
    portByte ((off &&& 0xFC) + 3) s ++ portByte ((off &&& 0xFC) + 2) s ++
    portByte ((off &&& 0xFC) + 1) s ++ portByte (off &&& 0xFC) s)

/-- R21, R22, R26, R27, R39–R42, R48: what a write to each register other than CMD does. -/
def Obligations.HostWriteEffects : Prop :=
  ∀ (s : State) (off : Byte) (v : Word),
    (off.toNat / 4 = 0 → hostWrite off v s = { s with ie := v.getLsbD 0 }) ∧
    (off.toNat / 4 = 2 → hostWrite off v s =
      { s with done := s.done && !v.getLsbD 1, ign := s.ign && !v.getLsbD 2 }) ∧
    (off.toNat / 4 = 4 → hostWrite off v s =
      if s.busy = true ∨ s.seqState = .ready then { s with ign := true }
      else { s with devAddr := BitVec.ofNat 7 (v.toNat % 2 ^ 7) }) ∧
    (off.toNat / 4 = 5 → hostWrite off v s =
      if s.busy = true then { s with ign := true } else { s with slp := v }) ∧
    (off.toNat / 4 = 6 → hostWrite off v s =
      if s.busy = true then { s with ign := true }
      else { s with rawT := BitVec.ofNat 20 (v.toNat % 2 ^ 20) }) ∧
    (off.toNat / 4 = 7 → hostWrite off v s =
      if s.busy = true then { s with ign := true }
      else { s with rawP := BitVec.ofNat 20 (v.toNat % 2 ^ 20) }) ∧
    (off.toNat / 4 = 13 → hostWrite off v s =
      if s.busy = true then { s with ign := true } else { s with arg := v }) ∧
    (off.toNat / 4 ∈ [3, 8, 9, 10, 11, 12, 14] ∨ (16 ≤ off.toNat / 4 ∧ off.toNat / 4 < 28) →
      hostWrite off v s = s)

/-- R30, R50: CAL[i] reads 0 while CAL_VALID = 0, else its stored field, zero-extended for T1 and P1 and
sign-extended for the others. -/
def Obligations.CalibrationReads : Prop :=
  ∀ (s : State) (i : Fin 12), portValue (BitVec.ofNat 8 (0x40 + 4 * i.val)) s =
    if s.calValid = false then 0
    else if i = 0 ∨ i = 3 then BitVec.ofNat 32 (calGet s.cal i).toNat
    else BitVec.ofInt 32 (calGet s.cal i).toInt

/-! ## Rules about the whole machine -/

/-- The invariant holds after reset. -/
def Obligations.InvariantHoldsAtReset : Prop := Inv State.reset

/-- Every step keeps the invariant. -/
def Obligations.StepKeepsTheInvariant : Prop :=
  ∀ s t : State, Inv s → step s = .next t → Inv t

/-- R43, R44: T_FINE and TEMP agree after reset. -/
def Obligations.TemperatureAgreesAtReset : Prop := TempInv State.reset

/-- R43, R44, R141, R143: in every run T_FINE stays in compT's range and TEMP is its conversion. -/
def Obligations.StepKeepsTemperatureAgreement : Prop :=
  ∀ s t : State, TempInv s → step s = .next t → TempInv t

/-- R111: SEQ_STATE changes only as the table says, at the table's events. -/
def Obligations.SequencerFollowsItsTable : Prop :=
  ∀ s t : State, Inv s → step s = .next t → t.seqState = seqAfter s

/-- R65, R69, R71, R103: a step issues at most one transaction, one of the fixed accesses, to DEV_ADDR,
and only when none is in flight or the one in flight has just been answered. -/
def Obligations.BusTrafficIsTheFixedMap : Prop :=
  ∀ s t : State, Inv s → step s = .next t →
    t.busLog = s.busLog ∨
    ∃ r, t.busLog = r :: s.busLog ∧ t.busreq = some r ∧ AllowedReq s.devAddr r ∧
      (s.busreq = none ∨ ∃ a, s.inputs.head? = some (.answer a))

/-- R101, R248: while a transaction is unanswered, no number of engine turns and host accesses ends the
command: it keeps waiting, BUSY stays 1, no transaction is issued and SEQ_STATE stays. -/
def Obligations.UnansweredTransactionWaitsForEver : Prop :=
  ∀ (n : Nat) (s : State) (r : BusReq), s.busreq = some r → s.busy = true →
    s.seqStep ≠ .decode → (∀ e ∈ s.inputs, noAnswer e = true) →
    ∃ t, Host.Core.run core n s = .next t ∧ t.busreq = some r ∧ t.busy = true ∧
      t.seqStep = s.seqStep ∧ t.busLog = s.busLog ∧ t.seqState = s.seqState ∧
      t.devAddr = s.devAddr ∧ t.slp = s.slp ∧ t.cmdl = s.cmdl ∧ sameData s t

/-- R27: IGN becomes 1 exactly by an ignored write (a CMD write while BUSY = 1, or a write to a locked
register while its lock holds), which changes nothing else, and becomes 0 only by a STATUS write with
bit 2 = 1 or by reset. -/
def Obligations.IgnMarksIgnoredWrites : Prop :=
  ∀ s t : State, step s = .next t →
    (∀ off v, s.inputs.head? = some (.hostWrite off v) →
      ((s.busy = true ∧ off.toNat / 4 ∈ [1, 4, 5, 6, 7, 13]) ∨
        (s.seqState = .ready ∧ off.toNat / 4 = 4)) →
      t = { s with inputs := s.inputs.tail, ign := true }) ∧
    (s.ign = false ∧ t.ign = true → ∃ off v, s.inputs.head? = some (.hostWrite off v) ∧
      ((s.busy = true ∧ off.toNat / 4 ∈ [1, 4, 5, 6, 7, 13]) ∨
        (s.seqState = .ready ∧ off.toNat / 4 = 4))) ∧
    (s.ign = true ∧ t.ign = false ↔ s.ign = true ∧
      (s.inputs.head? = some .reset ∨
        ∃ off v, s.inputs.head? = some (.hostWrite off v) ∧ off.toNat / 4 = 2 ∧ v.getLsbD 2 = true))

/-- R39, R40, R48, R55, R103: CTRL.IE, DEV_ADDR, SLP and ARG change only by a host write to them or by
reset; the operands among them not while a command runs, and DEV_ADDR not while READY. -/
def Obligations.OperandsBelongToTheHost : Prop :=
  ∀ s t : State, step s = .next t → s.inputs.head? ≠ some .reset →
    (t.ie ≠ s.ie → ∃ off v, s.inputs.head? = some (.hostWrite off v) ∧ off.toNat / 4 = 0) ∧
    (t.devAddr ≠ s.devAddr → s.busy = false ∧ s.seqState ≠ .ready ∧
      ∃ off v, s.inputs.head? = some (.hostWrite off v) ∧ off.toNat / 4 = 4) ∧
    (t.slp ≠ s.slp → s.busy = false ∧
      ∃ off v, s.inputs.head? = some (.hostWrite off v) ∧ off.toNat / 4 = 5) ∧
    (t.arg ≠ s.arg → s.busy = false ∧
      ∃ off v, s.inputs.head? = some (.hostWrite off v) ∧ off.toNat / 4 = 13)

/-- R30, R50, R72: a valid calibration table changes only by losing its validity, and becomes valid only
in the one step that commits all twelve values. -/
def Obligations.CalibrationTableIsNeverPartial : Prop :=
  ∀ s t : State, Inv s → step s = .next t →
    (s.calValid = true → t.calValid = true → t.cal = s.cal) ∧
    (s.calValid = false → t.calValid = true →
      s.seqStep = .initRead 11 ∧ t.seqStep = .initWrite ∧
      ∃ b0 b1 b2, s.inputs.head? = some (.answer (.ok b0 b1 b2)) ∧
        t.cal = { s.shadow with p9 := b1 ++ b0 })

/-- R102: how answer bytes become values, and that bits 3:0 of the third byte of a sample never affect
any result. -/
def Obligations.SampleLowNibbleIsDropped : Prop :=
  (∀ b0 b1 : Byte, (cal16 b0 b1).toNat = b1.toNat * 256 + b0.toNat) ∧
  (∀ b0 b1 b2 : Byte,
    (raw20 b0 b1 b2).toNat = (b0.toNat * 65536 + b1.toNat * 256 + b2.toNat) / 16) ∧
  (∀ (s : State) (b0 b1 b2 b2' : Byte), b2.toNat / 16 = b2'.toNat / 16 →
    consumeAnswer (.ok b0 b1 b2) s = consumeAnswer (.ok b0 b1 b2') s)

/-- R210, positions 2 to 5: the first check that fails decides the completion, before any transaction
and without touching SEQ_STATE; a command that passes its checks completes with NONE or waits. -/
def Obligations.ChecksAreMadeInOrder : Prop :=
  ∀ (i : Instr) (s : State), ∃ t, exec i s = .next t ∧
    match firstFailure i s with
    | some code => t.err = completionRecord s.cmdl 0 code ∧ t.busy = false ∧ t.done = true ∧
        t.seqStep = .idle ∧ t.busLog = s.busLog ∧ t.seqState = s.seqState
    | none => (t.seqStep = .idle ∧ t.err = completionRecord s.cmdl 0 0x00 ∧ t.busLog = s.busLog) ∨
        (t.seqStep ≠ .idle ∧ t.busreq.isSome = true ∧ t.err = s.err)

/-- R205: a command that fails at DECODE, or a read whose transaction fails, leaves every data register
as it was and the valid bits of its outputs 0. -/
def Obligations.FailingCommandsLeaveOutputsInvalid : Prop :=
  (∀ (i : Instr) (s : State) (code : Nat), firstFailure i s = some code →
    ∃ t, exec i s = .next t ∧ sameData s t ∧ outputsInvalid i t) ∧
  (∀ (s : State) (rest : List Event), Inv s → s.inputs = .answer .fail :: rest →
    ∃ t, step s = .next t ∧ sameData s t ∧
      (s.seqStep = .readT → outputsInvalid .readT t) ∧
      (s.seqStep = .readP → outputsInvalid .readP t) ∧
      (s.seqStep = .readAlt → outputsInvalid .readAlt t) ∧
      (s.seqStep = .initOpen → outputsInvalid .init t) ∧
      (∀ k, s.seqStep = .initRead k → outputsInvalid .init t))

/-- R58: no command reads a flag but the ones it checks: TVALID by READ_P, READ_ALT, COMP_P and COMP_P32,
PVALID by ALT, SEQ_STATE by all but NOP, INIT, LOG2 and EXP2.  Two states that differ only in other flags go
to states that differ only in flags, at the DECODE step of every command; at the steps that consume an
answer (INIT, READ_T, READ_P, READ_ALT) no flag is read at all. -/
def Obligations.CommandsDoNotReadHostFlags : Prop :=
  (∀ (i : Instr) (s t : State) (f : Flags), checkedAgree i f (flagsOf s) → exec i s = .next t →
    ∃ t', exec i (withFlags f s) = .next t' ∧ SameWork f s t t') ∧
  (∀ (a : BusAnswer) (s : State) (f : Flags),
    SameWork f s (consumeAnswer a s) (consumeAnswer a (withFlags f s)))

/-! ## The arithmetic -/

/-- R143: temp100 is `tf · 100 / 5120` rounded to nearest, halves up, and TEMP's range. -/
def Obligations.Temp100Rounds : Prop :=
  (∀ tf : Int, temp100 tf = (tf * 5 + 128) / 256) ∧
  (∀ tf : Int, 5120 * temp100 tf ≤ 100 * tf + 2560 ∧ 100 * tf + 2560 < 5120 * (temp100 tf + 1)) ∧
  (∀ tf : Int, -4194224 ≤ tf → tf ≤ 4194144 →
    (-2 ^ 31 ≤ tf * 5 + 128 ∧ tf * 5 + 128 < 2 ^ 31) ∧ -81918 ≤ temp100 tf ∧ temp100 tf ≤ 81917) ∧
  temp100 128422 = 2508

/-- The formula of 41_compensation.md section 2 (the spec's own reconstruction, marked there as general
knowledge; log entry 16) with floor divisions, and the range the same file derives for it. -/
def Obligations.FineTemperatureFormulaAndRange : Prop :=
  ∀ (raw : Raw) (t1 t2 t3 : Half),
    compT raw t1 t2 t3 =
      (((raw.toNat : Int) / 8 - t1.toNat * 2) * t2.toInt) / 2048 +
      (((((raw.toNat : Int) / 16 - t1.toNat) * ((raw.toNat : Int) / 16 - t1.toNat)) / 4096) * t3.toInt) /
        16384 ∧
    -4194224 ≤ compT raw t1 t2 t3 ∧ compT raw t1 t2 t3 ≤ 4194144

/-- 41_compensation.md section 3 (the divisor guard): the sentinel comes exactly with a zero divisor, with
pressure 0, and P1 = 0 makes the divisor zero in both forms.  Only the wraps that can happen are written.
64-bit form: with `v = T_FINE - 128000` and D the product `(2^47 + ⌊wrap(v²·P3) / 2^8⌋ + v·P2·2^12) · P1`
wrapped, the divisor is `⌊D / 2^33⌋`, 0 exactly for D in [0, 2^33).  32-bit form: with
`v = ⌊T_FINE / 2⌋ - 64000`, `q = wrap(⌊v / 4⌋²)` and D the product
`(32768 + ⌊(⌊wrap(P3·⌊q / 2^13⌋) / 8⌋ + ⌊wrap(P2·v) / 2⌋) / 2^18⌋) · P1` wrapped, the divisor is `⌊D / 2^15⌋`,
0 exactly for D in [0, 2^15). -/
def Obligations.SentinelExactlyOnZeroDivisor : Prop :=
  ∀ (tf : Word) (raw : Raw) (c : CalTable),
    ((compP64 tf raw c).2 = true ↔ divisor64 tf c = 0) ∧
    ((compP32 tf raw c).2 = true ↔ divisor32 tf c = 0) ∧
    ((compP64 tf raw c).2 = true → (compP64 tf raw c).1 = 0) ∧
    ((compP32 tf raw c).2 = true → (compP32 tf raw c).1 = 0) ∧
    (c.p1 = 0 → divisor64 tf c = 0 ∧ divisor32 tf c = 0) ∧
    (∀ v D : Int, v = tf.toInt - 128000 →
      D = wrapS64 ((2 ^ 47 + wrapS64 (v * v * c.p3.toInt) / 2 ^ 8 + v * c.p2.toInt * 2 ^ 12) *
        c.p1.toNat) →
      divisor64 tf c = D / 2 ^ 33 ∧ (divisor64 tf c = 0 ↔ 0 ≤ D ∧ D < 2 ^ 33)) ∧
    (∀ v q D : Int, v = tf.toInt / 2 - 64000 → q = wrapS32 (v / 4 * (v / 4)) →
      D = wrapS32 ((32768 + (wrapS32 (c.p3.toInt * (q / 2 ^ 13)) / 2 ^ 3 +
        wrapS32 (c.p2.toInt * v) / 2) / 2 ^ 18) * c.p1.toNat) →
      divisor32 tf c = D / 2 ^ 15 ∧ (divisor32 tf c = 0 ↔ 0 ≤ D ∧ D < 2 ^ 15))

/-- Decision D19: compP64, which wraps after every operation on integers, is what 64-bit
two's-complement machine words compute. -/
def Obligations.Pressure64IsWordArithmetic : Prop :=
  ∀ (tf : Word) (raw : Raw) (c : CalTable), compP64 tf raw c = wordP64 tf raw c

/-- Decision D20: compP32 is what 32-bit machine words compute, with unsigned division by the divisor. -/
def Obligations.Pressure32IsWordArithmetic : Prop :=
  ∀ (tf : Word) (raw : Raw) (c : CalTable), compP32 tf raw c = wordP32 tf raw c

/-- 42_altitude.md section 2 (log2fx): for x ≠ 0 the result is below 2^29 and its integer part is exact. -/
def Obligations.LogarithmRangeAndIntegerPart : Prop :=
  ∀ x : Word, x ≠ 0 → log2fx x < 2 ^ 29 ∧
    2 ^ (log2fx x / 2 ^ 24) ≤ x.toNat ∧ x.toNat < 2 ^ (log2fx x / 2 ^ 24 + 1)

/-- 42_altitude.md section 2 (the ranges): "log2fx is nondecreasing". -/
def Obligations.LogarithmIsMonotone : Prop :=
  ∀ x y : Word, x ≠ 0 → x.toNat ≤ y.toNat → log2fx x ≤ log2fx y

/-- 42_altitude.md section 2 (log2fx: "truncated in its 24 fraction bits"): the fixed-point logarithm never
exceeds the real one, log2fx(x) / 2^24 ≤ log2 x. -/
def Obligations.LogarithmNeverExceedsTheRealOne : Prop :=
  ∀ x : Word, x ≠ 0 → 2 ^ log2fx x ≤ x.toNat ^ (2 ^ 24)

/-- 42_altitude.md section 2 (exp2core): k is the floor of the exponent and the mantissa stays in
[2^30, 2^31). -/
def Obligations.ExponentialMantissaBounds : Prop :=
  (∀ y : Int, (exp2core y).1 = y / 2 ^ 24 ∧ 2 ^ 30 ≤ (exp2core y).2 ∧ (exp2core y).2 < 2 ^ 31) ∧
  (exp2core 0xFFFFFF).2 = 2147483543

/-- 42_altitude.md section 2 (the ranges): for all operands in the domain, exp2fx's domain condition
holds with k in [-7, 6], and the altitude fits s32. -/
def Obligations.AltitudeFitsItsRegister : Prop :=
  ∀ p s : Word, p ≠ 0 → s ≠ 0 →
    (-7 ≤ (((log2fx p : Int) - log2fx s) * 817310617) / 2 ^ 32 / 2 ^ 24 ∧
      (((log2fx p : Int) - log2fx s) * 817310617) / 2 ^ 32 / 2 ^ 24 ≤ 6) ∧
    altfx p s = (44330 * (16777216 -
      (exp2fx ((((log2fx p : Int) - log2fx s) * 817310617) / 2 ^ 32) : Int))) / 2 ^ 16 ∧
    (BitVec.ofInt 32 (altfx p s)).toInt = altfx p s

/-- 42_altitude.md section 2: a pressure at or above the reference never gives a positive altitude, and
one at or below it never a negative one. -/
def Obligations.AltitudeHasTheRightSign : Prop :=
  ∀ p s : Word, s ≠ 0 → (s.toNat ≤ p.toNat → altfx p s ≤ 0) ∧ (p.toNat ≤ s.toNat → 0 ≤ altfx p s)

/-- 42_altitude.md section 2, a corner case of ALT: "PRESS > SLP gives a negative ALT".  Expected to
fail: two pressures whose logarithms agree in 24 fraction bits give altitude 0 (NOTES.md, Findings). -/
def Obligations.PressureAboveReferenceIsNegative : Prop :=
  ∀ p s : Word, s ≠ 0 → s.toNat < p.toNat → altfx p s < 0
end

