-- ==== Sys2Proof/Laws/Altitude.lean ====
section
/-! SUPPORT. The loops of the altitude engine: the mantissa's range, the fraction bits as a number, and
the product over the table between its bounds. -/

namespace Sys2Proof.Machine

/-- R172: before each squaring 2^31 ≤ m < 2^32, so the square's top lies in [2^31, 2^33). -/
theorem square_range {m : Nat} (h : 2 ^ 31 ≤ m) (h' : m < 2 ^ 32) :
    2 ^ 31 ≤ (m * m) >>> 31 ∧ (m * m) >>> 31 < 2 ^ 33 := by
  have h1 : 2 ^ 31 * 2 ^ 31 ≤ m * m := Nat.mul_le_mul h h
  have h2 : m * m < 2 ^ 32 * 2 ^ 32 := Nat.mul_lt_mul'' h' h'
  rw [Nat.shiftRight_eq_div_pow]
  omega

/-- R172: after the conditional halving m is back in [2^31, 2^32). -/
theorem halved_range {m : Nat} (h : 2 ^ 32 ≤ m) (h' : m < 2 ^ 33) :
    2 ^ 31 ≤ m >>> 1 ∧ m >>> 1 < 2 ^ 32 := by
  rw [Nat.shiftRight_eq_div_pow]
  omega

/-- Setting a bit that is clear, below only clear bits, is an addition. -/
theorem or_bit_eq_add (q n : Nat) : (q * 2 ^ (n + 1)) ||| 1 <<< n = q * 2 ^ (n + 1) + 2 ^ n := by
  have h : 1 <<< n < 2 ^ (n + 1) := by
    rw [Nat.one_shiftLeft]; exact Nat.pow_lt_pow_right (by decide) (Nat.lt_succ_self n)
  rw [← Nat.shiftLeft_eq q (n + 1), ← Nat.shiftLeft_add_eq_or_of_lt h, Nat.one_shiftLeft]

/-- The bits found so far only add to what the remaining squarings find. -/
theorem log2Loop_frac (n : Nat) : ∀ m q, log2Loop n m (q * 2 ^ n) = q * 2 ^ n + log2Loop n m 0 := by
  induction n with
  | zero => intro m q; simp [log2Loop]
  | succ n ih =>
    intro m q
    have h0 : (0 : Nat) ||| 1 <<< n = 1 * 2 ^ n := by simp [Nat.one_shiftLeft]
    have hq : q * 2 ^ (n + 1) = (2 * q) * 2 ^ n := by rw [Nat.pow_succ]; ring
    have hz : (0 : Nat) = 0 * 2 ^ n := by simp
    simp only [log2Loop]
    split
    · rw [or_bit_eq_add, h0, ih _ 1, hq, show 2 * q * 2 ^ n + 2 ^ n = (2 * q + 1) * 2 ^ n by ring, ih]
      ring
    · rw [hq, ih]

/-- One squaring, as a number: the bit it finds and what the rest find. -/
theorem log2Loop_succ (n m : Nat) :
    log2Loop (n + 1) m 0 =
      if 2 ^ 32 ≤ (m * m) >>> 31 then 2 ^ n + log2Loop n ((m * m) >>> 31 >>> 1) 0
      else log2Loop n ((m * m) >>> 31) 0 := by
  have h := log2Loop_frac n ((m * m) >>> 31 >>> 1) 1
  simp only [log2Loop, Nat.one_shiftLeft, Nat.zero_or, one_mul] at h ⊢
  split <;> simp_all

/-- R172: `n` squarings give a fraction below 2^n. -/
theorem log2Loop_lt (n : Nat) : ∀ m, log2Loop n m 0 < 2 ^ n := by
  induction n with
  | zero => intro m; simp [log2Loop]
  | succ n ih =>
    intro m
    rw [log2Loop_succ, Nat.pow_succ]
    split
    · have := ih ((m * m) >>> 31 >>> 1); omega
    · have := ih ((m * m) >>> 31); omega

/-- log2fx as integer part and fraction. -/
theorem log2fx_eq (x : Word) :
    log2fx x = x.toNat.log2 * 2 ^ 24 + log2Loop 24 (x.toNat <<< (31 - x.toNat.log2)) 0 := by
  unfold log2fx
  rw [← Nat.shiftLeft_add_eq_or_of_lt (log2Loop_lt 24 _), Nat.shiftLeft_eq]

/-- R172: the normalised mantissa starts in [2^31, 2^32). -/
theorem log2_start_range (x : Word) (h : x ≠ 0) :
    x.toNat.log2 ≤ 31 ∧ 2 ^ 31 ≤ x.toNat <<< (31 - x.toNat.log2) ∧
      x.toNat <<< (31 - x.toNat.log2) < 2 ^ 32 := by
  have hx : x.toNat ≠ 0 := fun h0 => h (BitVec.eq_of_toNat_eq h0)
  have h1 := Nat.log2_self_le hx
  have h2 := Nat.lt_log2_self (n := x.toNat)
  have h3 : x.toNat.log2 ≤ 31 := by
    have := (Nat.log2_lt hx).mpr x.isLt
    omega
  refine ⟨h3, ?_, ?_⟩ <;> rw [Nat.shiftLeft_eq]
  · calc 2 ^ 31 = 2 ^ x.toNat.log2 * 2 ^ (31 - x.toNat.log2) := by rw [← Nat.pow_add]; congr 1; omega
      _ ≤ _ := Nat.mul_le_mul_right _ h1
  · calc x.toNat * 2 ^ (31 - x.toNat.log2)
        < 2 ^ (x.toNat.log2 + 1) * 2 ^ (31 - x.toNat.log2) :=
          Nat.mul_lt_mul_of_pos_right h2 (Nat.two_pow_pos _)
      _ = 2 ^ 32 := by rw [← Nat.pow_add]; congr 1; omega

/-- R173: a table factor of at least 1.0 never lowers the product. -/
theorem exp2Loop_ge (f : Nat) : ∀ (cs : List Nat) (b r : Nat), (∀ c ∈ cs, 2 ^ 30 ≤ c) →
    r ≤ exp2Loop f b cs r := by
  intro cs
  induction cs with
  | nil => intro b r _; exact Nat.le_refl r
  | cons c cs ih =>
    intro b r h
    refine Nat.le_trans ?_ (ih (b - 1) _ fun x hx => h x (List.mem_cons_of_mem _ hx))
    split
    · have h1 : r * 2 ^ 30 ≤ r * c := Nat.mul_le_mul_left r (h c List.mem_cons_self)
      rw [Nat.shiftRight_eq_div_pow]
      omega
    · exact Nat.le_refl r

/-- R173: the product of all table entries bounds every product. -/
theorem exp2Loop_le (f : Nat) : ∀ (cs : List Nat) (b r r' : Nat), r ≤ r' → (∀ c ∈ cs, 2 ^ 30 ≤ c) →
    exp2Loop f b cs r ≤ cs.foldl (fun r c => (r * c) >>> 30) r' := by
  intro cs
  induction cs with
  | nil => intro b r r' h _; exact h
  | cons c cs ih =>
    intro b r r' h hc
    refine ih (b - 1) _ _ ?_ fun x hx => hc x (List.mem_cons_of_mem _ hx)
    have h1 : r' * 2 ^ 30 ≤ r' * c := Nat.mul_le_mul_left r' (hc c List.mem_cons_self)
    have h2 : r * c ≤ r' * c := Nat.mul_le_mul_right c h
    simp only [Nat.shiftRight_eq_div_pow]
    split
    · exact Nat.div_le_div_right h2
    · omega

end Sys2Proof.Machine
end

