-- ==== Sys2Proof/Laws/Arith.lean ====
section
/-! SUPPORT. The integer operations of 00_scope.md R11: floor division, bounds of the wraps, and what
each wrapped operation is on machine words. -/

namespace Sys2Proof.Machine

theorem sra_eq_div (a : Int) (k : Nat) : sra a k = a / 2 ^ k := by
  simp [sra, Int.shiftRight_eq_div_pow]

theorem wrapS64_eq_toInt (v : Int) : wrapS64 v = (BitVec.ofInt 64 v).toInt := by
  simp [wrapS64, BitVec.toInt_ofInt]

theorem wrapS32_eq_toInt (v : Int) : wrapS32 v = (BitVec.ofInt 32 v).toInt := by
  simp [wrapS32, BitVec.toInt_ofInt]

theorem wrapU32_eq_toNat (v : Int) : wrapU32 v = ((BitVec.ofInt 32 v).toNat : Int) := by
  simp only [wrapU32, BitVec.toNat_ofInt]
  omega

theorem wrapS64_bounds (v : Int) : -2 ^ 63 ≤ wrapS64 v ∧ wrapS64 v < 2 ^ 63 := by
  simp only [wrapS64, Int.bmod]; split <;> omega

theorem wrapS32_bounds (v : Int) : -2 ^ 31 ≤ wrapS32 v ∧ wrapS32 v < 2 ^ 31 := by
  simp only [wrapS32, Int.bmod]; split <;> omega

theorem wrapU32_bounds (v : Int) : 0 ≤ wrapU32 v ∧ wrapU32 v < 2 ^ 32 := by
  unfold wrapU32; omega

theorem wrapS32_of_range {v : Int} (h : -2 ^ 31 ≤ v) (h' : v < 2 ^ 31) : wrapS32 v = v := by
  simp only [wrapS32, Int.bmod]; split <;> omega

theorem wrapS64_of_range {v : Int} (h : -2 ^ 63 ≤ v) (h' : v < 2 ^ 63) : wrapS64 v = v := by
  simp only [wrapS64, Int.bmod]; split <;> omega

/-! The 64-bit operations on values of words are the words' operations. -/

theorem add64_toInt (x y : BitVec 64) : add64 x.toInt y.toInt = (x + y).toInt := by
  simp [add64, wrapS64, BitVec.toInt_add]

theorem sub64_toInt (x y : BitVec 64) : sub64 x.toInt y.toInt = (x - y).toInt := by
  simp [sub64, wrapS64, BitVec.toInt_sub]

theorem mul64_toInt (x y : BitVec 64) : mul64 x.toInt y.toInt = (x * y).toInt := by
  simp [mul64, wrapS64, BitVec.toInt_mul]

theorem sra_toInt {w : Nat} (x : BitVec w) (k : Nat) : sra x.toInt k = (x.sshiftRight k).toInt := by
  simp [sra, BitVec.toInt_sshiftRight]

theorem shl64_toInt (x : BitVec 64) (k : Nat) : shl64 x.toInt k = (x <<< k).toInt := by
  simp only [shl64, shl, wrapS64, BitVec.toInt_eq_toNat_bmod, BitVec.toNat_shiftLeft, Nat.shiftLeft_eq]
  push_cast
  have hmul := Int.bmod_mul_bmod (x := (x.toNat : Int)) (y := 2 ^ k) (n := 2 ^ 64)
  have hmod := Int.emod_bmod ((x.toNat : Int) * 2 ^ k) (2 ^ 64)
  push_cast at hmul hmod
  rw [hmod, ← hmul]

theorem divT_toInt (x y : BitVec 64) : divT x.toInt y.toInt = (x.sdiv y).toInt := by
  simp [divT, wrapS64, BitVec.toInt_sdiv]

/-! The 32-bit operations likewise; the u32 ones through `toNat`. -/

theorem addS32_toInt (x y : Word) : addS32 x.toInt y.toInt = (x + y).toInt := by
  simp [addS32, wrapS32, BitVec.toInt_add]

theorem subS32_toInt (x y : Word) : subS32 x.toInt y.toInt = (x - y).toInt := by
  simp [subS32, wrapS32, BitVec.toInt_sub]

theorem mulS32_toInt (x y : Word) : mulS32 x.toInt y.toInt = (x * y).toInt := by
  simp [mulS32, wrapS32, BitVec.toInt_mul]

theorem wrapS32_shl_toInt (x : Word) (k : Nat) : wrapS32 (shl x.toInt k) = (x <<< k).toInt := by
  simp only [shl, wrapS32, BitVec.toInt_eq_toNat_bmod, BitVec.toNat_shiftLeft, Nat.shiftLeft_eq]
  push_cast
  have hmul := Int.bmod_mul_bmod (x := (x.toNat : Int)) (y := 2 ^ k) (n := 2 ^ 32)
  have hmod := Int.emod_bmod ((x.toNat : Int) * 2 ^ k) (2 ^ 32)
  push_cast at hmul hmod
  rw [hmod, ← hmul]

theorem subU32_toNat (x y : Word) : subU32 x.toNat y.toNat = ((x - y).toNat : Int) := by
  simp only [subU32, wrapU32, BitVec.toNat_sub]
  omega

theorem mulU32_toNat (x y : Word) : mulU32 x.toNat y.toNat = ((x * y).toNat : Int) := by
  simp only [mulU32, wrapU32, BitVec.toNat_mul]
  norm_cast

theorem addU32_toNat (x y : Word) : addU32 x.toNat y.toNat = ((x + y).toNat : Int) := by
  simp only [addU32, wrapU32, BitVec.toNat_add]
  norm_cast

theorem wrapU32_toInt (x : Word) : wrapU32 x.toInt = (x.toNat : Int) := by
  simp only [wrapU32, BitVec.toInt_eq_toNat_cond]
  have := x.isLt
  split <;> omega

theorem wrapS32_toNat (x : Word) : wrapS32 (x.toNat : Int) = x.toInt := by
  simp [wrapS32, BitVec.toInt_eq_toNat_bmod]

theorem sra_toNat {w : Nat} (x : BitVec w) (k : Nat) : sra (x.toNat : Int) k = ((x >>> k).toNat : Int) := by
  rw [sra_eq_div, BitVec.toNat_ushiftRight, Nat.shiftRight_eq_div_pow]
  norm_cast

/-! Operands as words. -/

theorem s16_toInt64 (h : Half) : s16 h = (h.signExtend 64).toInt := by
  simp [s16, BitVec.toInt_signExtend_of_le]

theorem s16_toInt32 (h : Half) : s16 h = (h.signExtend 32).toInt := by
  simp [s16, BitVec.toInt_signExtend_of_le]

theorem u16_toInt64 (h : Half) : u16 h = (h.setWidth 64).toInt := by
  have := h.isLt
  simp only [u16, BitVec.toInt_eq_toNat_cond, BitVec.toNat_setWidth]
  split <;> omega

theorem u16_toInt32 (h : Half) : u16 h = (h.setWidth 32).toInt := by
  have := h.isLt
  simp only [u16, BitVec.toInt_eq_toNat_cond, BitVec.toNat_setWidth]
  split <;> omega

theorem u20_toInt64 (r : Raw) : u20 r = (r.setWidth 64).toInt := by
  have := r.isLt
  simp only [u20, BitVec.toInt_eq_toNat_cond, BitVec.toNat_setWidth]
  split <;> omega

theorem s16_bounds (h : Half) : -32768 ≤ s16 h ∧ s16 h ≤ 32767 := by
  have h1 := BitVec.le_toInt h
  have h2 := BitVec.toInt_lt (x := h)
  simp only [s16]
  omega

theorem u16_bounds (h : Half) : 0 ≤ u16 h ∧ u16 h ≤ 65535 := by
  have := h.isLt
  simp only [u16]
  omega

theorem u20_bounds (r : Raw) : 0 ≤ u20 r ∧ u20 r ≤ 1048575 := by
  have := r.isLt
  simp only [u20]
  omega

end Sys2Proof.Machine
end

