-- ==== Sys2Proof/Laws/Checks.lean ====
section
/-! SUPPORT. The checks of R210 for each command, as its rule orders them, and the small lemmas of the
flags of R58. -/

namespace Sys2Proof.Machine

theorem firstFailure_nop (s : State) : firstFailure .nop s = none := by
  simp [firstFailure]

theorem firstFailure_init (s : State) : firstFailure .init s = none := by
  simp [firstFailure]

theorem firstFailure_readT (s : State) :
    firstFailure .readT s = if s.seqState ≠ .ready then some 0x06 else none := by
  simp [firstFailure]

theorem firstFailure_readP (s : State) :
    firstFailure .readP s =
      if s.seqState ≠ .ready then some 0x06 else if s.tvalid = false then some 0x11 else none := by
  simp [firstFailure]

theorem firstFailure_readAlt (s : State) :
    firstFailure .readAlt s =
      if s.seqState ≠ .ready then some 0x06
      else if s.tvalid = false then some 0x11 else if s.slp = 0 then some 0x13 else none := by
  simp [firstFailure]

theorem firstFailure_compT (s : State) :
    firstFailure .compT s = if s.seqState ≠ .ready then some 0x06 else none := by
  simp [firstFailure]

theorem firstFailure_compP (s : State) :
    firstFailure .compP s =
      if s.seqState ≠ .ready then some 0x06 else if s.tvalid = false then some 0x11 else none := by
  simp [firstFailure]

theorem firstFailure_compP32 (s : State) :
    firstFailure .compP32 s =
      if s.seqState ≠ .ready then some 0x06 else if s.tvalid = false then some 0x11 else none := by
  simp [firstFailure]

theorem firstFailure_alt (s : State) :
    firstFailure .alt s =
      if s.seqState ≠ .ready then some 0x06
      else if s.pvalid = false then some 0x12 else if s.slp = 0 then some 0x13 else none := by
  simp [firstFailure]

theorem firstFailure_log2 (s : State) :
    firstFailure .log2 s = if s.arg = 0 then some 0x13 else none := by
  simp [firstFailure]

theorem firstFailure_exp2 (s : State) :
    firstFailure .exp2 s = if 8 * 2 ^ 24 ≤ s.arg.toInt then some 0x13 else none := by
  simp [firstFailure]

@[simp] theorem flagsOf_withFlags (f : Flags) (s : State) : flagsOf (withFlags f s) = f := rfl

@[simp] theorem withFlags_flagsOf (s : State) : withFlags (flagsOf s) s = s := rfl

@[simp] theorem withFlags_withFlags (f g : Flags) (s : State) :
    withFlags f (withFlags g s) = withFlags f s := rfl

theorem writtenOrKept_written {α : Type} (s s' t : α) : writtenOrKept s s' t t := .inl rfl

theorem writtenOrKept_kept {α : Type} (s s' : α) : writtenOrKept s s' s s' := .inr ⟨rfl, rfl⟩

end Sys2Proof.Machine
end

