-- ==== Sys2Proof/Laws/Codec.lean ====
section
/-! SUPPORT. Small facts of the decoder, the encoder and the register words' bit layouts. -/

namespace Sys2Proof.Machine

/-- An append of two fields as a number. -/
theorem toNat_append_fields {m n : Nat} (x : BitVec m) (y : BitVec n) :
    (x ++ y).toNat = x.toNat * 2 ^ n + y.toNat := by
  rw [BitVec.toNat_append, ← Nat.shiftLeft_add_eq_or_of_lt y.isLt, Nat.shiftLeft_eq]

theorem toNat_opcOf (w : Word) : (opcOf w).toNat = w.toNat % 256 := by
  simp [opcOf]

theorem toNat_rsvOf (w : Word) : (rsvOf w).toNat = w.toNat / 256 := by
  have := w.isLt
  simp only [rsvOf, BitVec.extractLsb'_toNat, Nat.shiftRight_eq_div_pow]
  omega

theorem toNat_encode (i : Instr) : (encode i).toNat = (opcodeOf i).toNat := by
  cases i <;> rfl

theorem rsvOf_eq_zero_iff (w : Word) : rsvOf w = 0 ↔ w.toNat < 256 := by
  rw [← BitVec.toNat_inj, toNat_rsvOf]
  simp

/-- `errWord` by its bit positions. -/
theorem toNat_errWord (op : Byte) (idx : BitVec 4) (c : Code) :
    (errWord op idx c).toNat = op.toNat * 2 ^ 16 + idx.toNat * 2 ^ 8 + (codeByte c).toNat := by
  simp only [errWord, toNat_append_fields, BitVec.toNat_ofNat]
  omega

theorem errWord_eq_completionRecord (w : Word) (idx : BitVec 4) (c : Code) :
    errWord (opcOf w) idx c = completionRecord w idx.toNat (codeByte c).toNat := by
  apply BitVec.eq_of_toNat_eq
  have h1 := idx.isLt
  have h2 := (codeByte c).isLt
  rw [toNat_errWord, toNat_opcOf, completionRecord, BitVec.toNat_ofNat, Nat.mod_eq_of_lt (b := 2 ^ 32)]
  omega

/-- `complete` in the statements' terms. -/
theorem complete_eq_completed (c : Code) (idx : BitVec 4) (s : State) :
    complete c idx s = completed s idx.toNat (codeByte c).toNat := by
  simp only [complete, completed, errWord_eq_completionRecord]

/-- `issue` in the statements' terms. -/
theorem issue_eq_awaiting (r : BusReq) (p : SeqStep) (s : State) : issue r p s = awaiting s r p := rfl

/-- Every completion record is one that R38 and R201 allow, when the index obeys R38. -/
theorem legalRecord_errWord (op : Byte) (idx : BitVec 4) (c : Code) (hc : c ≠ .busWriteError)
    (hi : idx = 0 ∨ (c = .calibrationReadError ∧ idx.toNat ≤ 11)) : LegalRecord (errWord op idx c) := by
  refine ⟨op.toNat, idx.toNat, (codeByte c).toNat, op.isLt, ?_, ?_⟩
  · apply BitVec.eq_of_toNat_eq
    have h0 := op.isLt
    have h1 := idx.isLt
    have h2 := (codeByte c).isLt
    rw [toNat_errWord, BitVec.toNat_ofNat, Nat.mod_eq_of_lt]
    omega
  · rcases hi with rfl | ⟨rfl, h⟩
    · cases c <;> simp_all [codeByte]
    · exact .inl ⟨rfl, h⟩

/-- STATUS as a number, field by field. -/
theorem toNat_statusWord (s : State) :
    (statusWord s).toNat =
      s.busy.toNat + s.done.toNat * 2 + s.ign.toNat * 2 ^ 2 + (seqCode s.seqState).toNat * 2 ^ 4 +
      s.busOpen.toNat * 2 ^ 8 + s.calValid.toNat * 2 ^ 9 + s.tvalid.toNat * 2 ^ 10 +
      s.pvalid.toNat * 2 ^ 11 + s.p32valid.toNat * 2 ^ 12 + s.avalid.toNat * 2 ^ 13 +
      s.rvalid.toNat * 2 ^ 14 + s.psent.toNat * 2 ^ 15 + (irq s).toNat * 2 ^ 16 := by
  simp only [statusWord, toNat_append_fields, BitVec.toNat_ofNat, BitVec.toNat_ofBool]
  omega

end Sys2Proof.Machine
end

