-- ==== Sys2Proof/Laws/State.lean ====
section
/-! SUPPORT. One lemma per field per named update of State, so that no proof unfolds a record update. -/

namespace Sys2Proof.Machine

@[simp] theorem complete_ie (c : Code) (i : BitVec 4) (s : State) :
    (complete c i s).ie = s.ie := rfl
@[simp] theorem complete_busy (c : Code) (i : BitVec 4) (s : State) :
    (complete c i s).busy = false := rfl
@[simp] theorem complete_done (c : Code) (i : BitVec 4) (s : State) :
    (complete c i s).done = true := rfl
@[simp] theorem complete_ign (c : Code) (i : BitVec 4) (s : State) :
    (complete c i s).ign = s.ign := rfl
@[simp] theorem complete_seqState (c : Code) (i : BitVec 4) (s : State) :
    (complete c i s).seqState = s.seqState := rfl
@[simp] theorem complete_busOpen (c : Code) (i : BitVec 4) (s : State) :
    (complete c i s).busOpen = s.busOpen := rfl
@[simp] theorem complete_calValid (c : Code) (i : BitVec 4) (s : State) :
    (complete c i s).calValid = s.calValid := rfl
@[simp] theorem complete_tvalid (c : Code) (i : BitVec 4) (s : State) :
    (complete c i s).tvalid = s.tvalid := rfl
@[simp] theorem complete_pvalid (c : Code) (i : BitVec 4) (s : State) :
    (complete c i s).pvalid = s.pvalid := rfl
@[simp] theorem complete_p32valid (c : Code) (i : BitVec 4) (s : State) :
    (complete c i s).p32valid = s.p32valid := rfl
@[simp] theorem complete_avalid (c : Code) (i : BitVec 4) (s : State) :
    (complete c i s).avalid = s.avalid := rfl
@[simp] theorem complete_rvalid (c : Code) (i : BitVec 4) (s : State) :
    (complete c i s).rvalid = s.rvalid := rfl
@[simp] theorem complete_psent (c : Code) (i : BitVec 4) (s : State) :
    (complete c i s).psent = s.psent := rfl
@[simp] theorem complete_err (c : Code) (i : BitVec 4) (s : State) :
    (complete c i s).err = errWord (opcOf s.cmdl) i c := rfl
@[simp] theorem complete_devAddr (c : Code) (i : BitVec 4) (s : State) :
    (complete c i s).devAddr = s.devAddr := rfl
@[simp] theorem complete_slp (c : Code) (i : BitVec 4) (s : State) :
    (complete c i s).slp = s.slp := rfl
@[simp] theorem complete_rawT (c : Code) (i : BitVec 4) (s : State) :
    (complete c i s).rawT = s.rawT := rfl
@[simp] theorem complete_rawP (c : Code) (i : BitVec 4) (s : State) :
    (complete c i s).rawP = s.rawP := rfl
@[simp] theorem complete_tFine (c : Code) (i : BitVec 4) (s : State) :
    (complete c i s).tFine = s.tFine := rfl
@[simp] theorem complete_temp (c : Code) (i : BitVec 4) (s : State) :
    (complete c i s).temp = s.temp := rfl
@[simp] theorem complete_press (c : Code) (i : BitVec 4) (s : State) :
    (complete c i s).press = s.press := rfl
@[simp] theorem complete_press32 (c : Code) (i : BitVec 4) (s : State) :
    (complete c i s).press32 = s.press32 := rfl
@[simp] theorem complete_alt (c : Code) (i : BitVec 4) (s : State) :
    (complete c i s).alt = s.alt := rfl
@[simp] theorem complete_arg (c : Code) (i : BitVec 4) (s : State) :
    (complete c i s).arg = s.arg := rfl
@[simp] theorem complete_res (c : Code) (i : BitVec 4) (s : State) :
    (complete c i s).res = s.res := rfl
@[simp] theorem complete_cal (c : Code) (i : BitVec 4) (s : State) :
    (complete c i s).cal = s.cal := rfl
@[simp] theorem complete_cmdl (c : Code) (i : BitVec 4) (s : State) :
    (complete c i s).cmdl = s.cmdl := rfl
@[simp] theorem complete_seqStep (c : Code) (i : BitVec 4) (s : State) :
    (complete c i s).seqStep = .idle := rfl
@[simp] theorem complete_shadow (c : Code) (i : BitVec 4) (s : State) :
    (complete c i s).shadow = s.shadow := rfl
@[simp] theorem complete_busreq (c : Code) (i : BitVec 4) (s : State) :
    (complete c i s).busreq = none := rfl
@[simp] theorem complete_inputs (c : Code) (i : BitVec 4) (s : State) :
    (complete c i s).inputs = s.inputs := rfl
@[simp] theorem complete_busLog (c : Code) (i : BitVec 4) (s : State) :
    (complete c i s).busLog = s.busLog := rfl
@[simp] theorem complete_portData (c : Code) (i : BitVec 4) (s : State) :
    (complete c i s).portData = s.portData := rfl
@[simp] theorem complete_draws (c : Code) (i : BitVec 4) (s : State) :
    (complete c i s).draws = s.draws := rfl

@[simp] theorem issue_ie (r : BusReq) (p : SeqStep) (s : State) : (issue r p s).ie = s.ie := rfl
@[simp] theorem issue_busy (r : BusReq) (p : SeqStep) (s : State) :
    (issue r p s).busy = s.busy := rfl
@[simp] theorem issue_done (r : BusReq) (p : SeqStep) (s : State) :
    (issue r p s).done = s.done := rfl
@[simp] theorem issue_ign (r : BusReq) (p : SeqStep) (s : State) : (issue r p s).ign = s.ign := rfl
@[simp] theorem issue_seqState (r : BusReq) (p : SeqStep) (s : State) :
    (issue r p s).seqState = s.seqState := rfl
@[simp] theorem issue_busOpen (r : BusReq) (p : SeqStep) (s : State) :
    (issue r p s).busOpen = s.busOpen := rfl
@[simp] theorem issue_calValid (r : BusReq) (p : SeqStep) (s : State) :
    (issue r p s).calValid = s.calValid := rfl
@[simp] theorem issue_tvalid (r : BusReq) (p : SeqStep) (s : State) :
    (issue r p s).tvalid = s.tvalid := rfl
@[simp] theorem issue_pvalid (r : BusReq) (p : SeqStep) (s : State) :
    (issue r p s).pvalid = s.pvalid := rfl
@[simp] theorem issue_p32valid (r : BusReq) (p : SeqStep) (s : State) :
    (issue r p s).p32valid = s.p32valid := rfl
@[simp] theorem issue_avalid (r : BusReq) (p : SeqStep) (s : State) :
    (issue r p s).avalid = s.avalid := rfl
@[simp] theorem issue_rvalid (r : BusReq) (p : SeqStep) (s : State) :
    (issue r p s).rvalid = s.rvalid := rfl
@[simp] theorem issue_psent (r : BusReq) (p : SeqStep) (s : State) :
    (issue r p s).psent = s.psent := rfl
@[simp] theorem issue_err (r : BusReq) (p : SeqStep) (s : State) : (issue r p s).err = s.err := rfl
@[simp] theorem issue_devAddr (r : BusReq) (p : SeqStep) (s : State) :
    (issue r p s).devAddr = s.devAddr := rfl
@[simp] theorem issue_slp (r : BusReq) (p : SeqStep) (s : State) : (issue r p s).slp = s.slp := rfl
@[simp] theorem issue_rawT (r : BusReq) (p : SeqStep) (s : State) :
    (issue r p s).rawT = s.rawT := rfl
@[simp] theorem issue_rawP (r : BusReq) (p : SeqStep) (s : State) :
    (issue r p s).rawP = s.rawP := rfl
@[simp] theorem issue_tFine (r : BusReq) (p : SeqStep) (s : State) :
    (issue r p s).tFine = s.tFine := rfl
@[simp] theorem issue_temp (r : BusReq) (p : SeqStep) (s : State) :
    (issue r p s).temp = s.temp := rfl
@[simp] theorem issue_press (r : BusReq) (p : SeqStep) (s : State) :
    (issue r p s).press = s.press := rfl
@[simp] theorem issue_press32 (r : BusReq) (p : SeqStep) (s : State) :
    (issue r p s).press32 = s.press32 := rfl
@[simp] theorem issue_alt (r : BusReq) (p : SeqStep) (s : State) : (issue r p s).alt = s.alt := rfl
@[simp] theorem issue_arg (r : BusReq) (p : SeqStep) (s : State) : (issue r p s).arg = s.arg := rfl
@[simp] theorem issue_res (r : BusReq) (p : SeqStep) (s : State) : (issue r p s).res = s.res := rfl
@[simp] theorem issue_cal (r : BusReq) (p : SeqStep) (s : State) : (issue r p s).cal = s.cal := rfl
@[simp] theorem issue_cmdl (r : BusReq) (p : SeqStep) (s : State) :
    (issue r p s).cmdl = s.cmdl := rfl
@[simp] theorem issue_seqStep (r : BusReq) (p : SeqStep) (s : State) :
    (issue r p s).seqStep = p := rfl
@[simp] theorem issue_shadow (r : BusReq) (p : SeqStep) (s : State) :
    (issue r p s).shadow = s.shadow := rfl
@[simp] theorem issue_busreq (r : BusReq) (p : SeqStep) (s : State) :
    (issue r p s).busreq = some r := rfl
@[simp] theorem issue_inputs (r : BusReq) (p : SeqStep) (s : State) :
    (issue r p s).inputs = s.inputs := rfl
@[simp] theorem issue_busLog (r : BusReq) (p : SeqStep) (s : State) :
    (issue r p s).busLog = r :: s.busLog := rfl
@[simp] theorem issue_portData (r : BusReq) (p : SeqStep) (s : State) :
    (issue r p s).portData = s.portData := rfl
@[simp] theorem issue_draws (r : BusReq) (p : SeqStep) (s : State) :
    (issue r p s).draws = s.draws := rfl

@[simp] theorem accept_ie (w : Word) (s : State) : (accept w s).ie = s.ie := rfl
@[simp] theorem accept_busy (w : Word) (s : State) : (accept w s).busy = true := rfl
@[simp] theorem accept_done (w : Word) (s : State) : (accept w s).done = false := rfl
@[simp] theorem accept_ign (w : Word) (s : State) : (accept w s).ign = s.ign := rfl
@[simp] theorem accept_seqState (w : Word) (s : State) : (accept w s).seqState = s.seqState := rfl
@[simp] theorem accept_busOpen (w : Word) (s : State) : (accept w s).busOpen = s.busOpen := rfl
@[simp] theorem accept_calValid (w : Word) (s : State) : (accept w s).calValid = s.calValid := rfl
@[simp] theorem accept_tvalid (w : Word) (s : State) : (accept w s).tvalid = s.tvalid := rfl
@[simp] theorem accept_pvalid (w : Word) (s : State) : (accept w s).pvalid = s.pvalid := rfl
@[simp] theorem accept_p32valid (w : Word) (s : State) : (accept w s).p32valid = s.p32valid := rfl
@[simp] theorem accept_avalid (w : Word) (s : State) : (accept w s).avalid = s.avalid := rfl
@[simp] theorem accept_rvalid (w : Word) (s : State) : (accept w s).rvalid = s.rvalid := rfl
@[simp] theorem accept_psent (w : Word) (s : State) : (accept w s).psent = s.psent := rfl
@[simp] theorem accept_err (w : Word) (s : State) : (accept w s).err = s.err := rfl
@[simp] theorem accept_devAddr (w : Word) (s : State) : (accept w s).devAddr = s.devAddr := rfl
@[simp] theorem accept_slp (w : Word) (s : State) : (accept w s).slp = s.slp := rfl
@[simp] theorem accept_rawT (w : Word) (s : State) : (accept w s).rawT = s.rawT := rfl
@[simp] theorem accept_rawP (w : Word) (s : State) : (accept w s).rawP = s.rawP := rfl
@[simp] theorem accept_tFine (w : Word) (s : State) : (accept w s).tFine = s.tFine := rfl
@[simp] theorem accept_temp (w : Word) (s : State) : (accept w s).temp = s.temp := rfl
@[simp] theorem accept_press (w : Word) (s : State) : (accept w s).press = s.press := rfl
@[simp] theorem accept_press32 (w : Word) (s : State) : (accept w s).press32 = s.press32 := rfl
@[simp] theorem accept_alt (w : Word) (s : State) : (accept w s).alt = s.alt := rfl
@[simp] theorem accept_arg (w : Word) (s : State) : (accept w s).arg = s.arg := rfl
@[simp] theorem accept_res (w : Word) (s : State) : (accept w s).res = s.res := rfl
@[simp] theorem accept_cal (w : Word) (s : State) : (accept w s).cal = s.cal := rfl
@[simp] theorem accept_cmdl (w : Word) (s : State) : (accept w s).cmdl = w := rfl
@[simp] theorem accept_seqStep (w : Word) (s : State) : (accept w s).seqStep = .decode := rfl
@[simp] theorem accept_shadow (w : Word) (s : State) : (accept w s).shadow = s.shadow := rfl
@[simp] theorem accept_busreq (w : Word) (s : State) : (accept w s).busreq = s.busreq := rfl
@[simp] theorem accept_inputs (w : Word) (s : State) : (accept w s).inputs = s.inputs := rfl
@[simp] theorem accept_busLog (w : Word) (s : State) : (accept w s).busLog = s.busLog := rfl
@[simp] theorem accept_portData (w : Word) (s : State) : (accept w s).portData = s.portData := rfl
@[simp] theorem accept_draws (w : Word) (s : State) : (accept w s).draws = s.draws := rfl

@[simp] theorem ignoreWrite_ie (s : State) : (ignoreWrite s).ie = s.ie := rfl
@[simp] theorem ignoreWrite_busy (s : State) : (ignoreWrite s).busy = s.busy := rfl
@[simp] theorem ignoreWrite_done (s : State) : (ignoreWrite s).done = s.done := rfl
@[simp] theorem ignoreWrite_ign (s : State) : (ignoreWrite s).ign = true := rfl
@[simp] theorem ignoreWrite_seqState (s : State) : (ignoreWrite s).seqState = s.seqState := rfl
@[simp] theorem ignoreWrite_busOpen (s : State) : (ignoreWrite s).busOpen = s.busOpen := rfl
@[simp] theorem ignoreWrite_calValid (s : State) : (ignoreWrite s).calValid = s.calValid := rfl
@[simp] theorem ignoreWrite_tvalid (s : State) : (ignoreWrite s).tvalid = s.tvalid := rfl
@[simp] theorem ignoreWrite_pvalid (s : State) : (ignoreWrite s).pvalid = s.pvalid := rfl
@[simp] theorem ignoreWrite_p32valid (s : State) : (ignoreWrite s).p32valid = s.p32valid := rfl
@[simp] theorem ignoreWrite_avalid (s : State) : (ignoreWrite s).avalid = s.avalid := rfl
@[simp] theorem ignoreWrite_rvalid (s : State) : (ignoreWrite s).rvalid = s.rvalid := rfl
@[simp] theorem ignoreWrite_psent (s : State) : (ignoreWrite s).psent = s.psent := rfl
@[simp] theorem ignoreWrite_err (s : State) : (ignoreWrite s).err = s.err := rfl
@[simp] theorem ignoreWrite_devAddr (s : State) : (ignoreWrite s).devAddr = s.devAddr := rfl
@[simp] theorem ignoreWrite_slp (s : State) : (ignoreWrite s).slp = s.slp := rfl
@[simp] theorem ignoreWrite_rawT (s : State) : (ignoreWrite s).rawT = s.rawT := rfl
@[simp] theorem ignoreWrite_rawP (s : State) : (ignoreWrite s).rawP = s.rawP := rfl
@[simp] theorem ignoreWrite_tFine (s : State) : (ignoreWrite s).tFine = s.tFine := rfl
@[simp] theorem ignoreWrite_temp (s : State) : (ignoreWrite s).temp = s.temp := rfl
@[simp] theorem ignoreWrite_press (s : State) : (ignoreWrite s).press = s.press := rfl
@[simp] theorem ignoreWrite_press32 (s : State) : (ignoreWrite s).press32 = s.press32 := rfl
@[simp] theorem ignoreWrite_alt (s : State) : (ignoreWrite s).alt = s.alt := rfl
@[simp] theorem ignoreWrite_arg (s : State) : (ignoreWrite s).arg = s.arg := rfl
@[simp] theorem ignoreWrite_res (s : State) : (ignoreWrite s).res = s.res := rfl
@[simp] theorem ignoreWrite_cal (s : State) : (ignoreWrite s).cal = s.cal := rfl
@[simp] theorem ignoreWrite_cmdl (s : State) : (ignoreWrite s).cmdl = s.cmdl := rfl
@[simp] theorem ignoreWrite_seqStep (s : State) : (ignoreWrite s).seqStep = s.seqStep := rfl
@[simp] theorem ignoreWrite_shadow (s : State) : (ignoreWrite s).shadow = s.shadow := rfl
@[simp] theorem ignoreWrite_busreq (s : State) : (ignoreWrite s).busreq = s.busreq := rfl
@[simp] theorem ignoreWrite_inputs (s : State) : (ignoreWrite s).inputs = s.inputs := rfl
@[simp] theorem ignoreWrite_busLog (s : State) : (ignoreWrite s).busLog = s.busLog := rfl
@[simp] theorem ignoreWrite_portData (s : State) : (ignoreWrite s).portData = s.portData := rfl
@[simp] theorem ignoreWrite_draws (s : State) : (ignoreWrite s).draws = s.draws := rfl

@[simp] theorem ackStatus_ie (v : Word) (s : State) : (ackStatus v s).ie = s.ie := rfl
@[simp] theorem ackStatus_busy (v : Word) (s : State) : (ackStatus v s).busy = s.busy := rfl
@[simp] theorem ackStatus_done (v : Word) (s : State) :
    (ackStatus v s).done = (s.done && !v.getLsbD 1) := rfl
@[simp] theorem ackStatus_ign (v : Word) (s : State) :
    (ackStatus v s).ign = (s.ign && !v.getLsbD 2) := rfl
@[simp] theorem ackStatus_seqState (v : Word) (s : State) :
    (ackStatus v s).seqState = s.seqState := rfl
@[simp] theorem ackStatus_busOpen (v : Word) (s : State) :
    (ackStatus v s).busOpen = s.busOpen := rfl
@[simp] theorem ackStatus_calValid (v : Word) (s : State) :
    (ackStatus v s).calValid = s.calValid := rfl
@[simp] theorem ackStatus_tvalid (v : Word) (s : State) : (ackStatus v s).tvalid = s.tvalid := rfl
@[simp] theorem ackStatus_pvalid (v : Word) (s : State) : (ackStatus v s).pvalid = s.pvalid := rfl
@[simp] theorem ackStatus_p32valid (v : Word) (s : State) :
    (ackStatus v s).p32valid = s.p32valid := rfl
@[simp] theorem ackStatus_avalid (v : Word) (s : State) : (ackStatus v s).avalid = s.avalid := rfl
@[simp] theorem ackStatus_rvalid (v : Word) (s : State) : (ackStatus v s).rvalid = s.rvalid := rfl
@[simp] theorem ackStatus_psent (v : Word) (s : State) : (ackStatus v s).psent = s.psent := rfl
@[simp] theorem ackStatus_err (v : Word) (s : State) : (ackStatus v s).err = s.err := rfl
@[simp] theorem ackStatus_devAddr (v : Word) (s : State) :
    (ackStatus v s).devAddr = s.devAddr := rfl
@[simp] theorem ackStatus_slp (v : Word) (s : State) : (ackStatus v s).slp = s.slp := rfl
@[simp] theorem ackStatus_rawT (v : Word) (s : State) : (ackStatus v s).rawT = s.rawT := rfl
@[simp] theorem ackStatus_rawP (v : Word) (s : State) : (ackStatus v s).rawP = s.rawP := rfl
@[simp] theorem ackStatus_tFine (v : Word) (s : State) : (ackStatus v s).tFine = s.tFine := rfl
@[simp] theorem ackStatus_temp (v : Word) (s : State) : (ackStatus v s).temp = s.temp := rfl
@[simp] theorem ackStatus_press (v : Word) (s : State) : (ackStatus v s).press = s.press := rfl
@[simp] theorem ackStatus_press32 (v : Word) (s : State) :
    (ackStatus v s).press32 = s.press32 := rfl
@[simp] theorem ackStatus_alt (v : Word) (s : State) : (ackStatus v s).alt = s.alt := rfl
@[simp] theorem ackStatus_arg (v : Word) (s : State) : (ackStatus v s).arg = s.arg := rfl
@[simp] theorem ackStatus_res (v : Word) (s : State) : (ackStatus v s).res = s.res := rfl
@[simp] theorem ackStatus_cal (v : Word) (s : State) : (ackStatus v s).cal = s.cal := rfl
@[simp] theorem ackStatus_cmdl (v : Word) (s : State) : (ackStatus v s).cmdl = s.cmdl := rfl
@[simp] theorem ackStatus_seqStep (v : Word) (s : State) :
    (ackStatus v s).seqStep = s.seqStep := rfl
@[simp] theorem ackStatus_shadow (v : Word) (s : State) : (ackStatus v s).shadow = s.shadow := rfl
@[simp] theorem ackStatus_busreq (v : Word) (s : State) : (ackStatus v s).busreq = s.busreq := rfl
@[simp] theorem ackStatus_inputs (v : Word) (s : State) : (ackStatus v s).inputs = s.inputs := rfl
@[simp] theorem ackStatus_busLog (v : Word) (s : State) : (ackStatus v s).busLog = s.busLog := rfl
@[simp] theorem ackStatus_portData (v : Word) (s : State) :
    (ackStatus v s).portData = s.portData := rfl
@[simp] theorem ackStatus_draws (v : Word) (s : State) : (ackStatus v s).draws = s.draws := rfl

@[simp] theorem setInputs_ie (l : List Event) (s : State) : (setInputs l s).ie = s.ie := rfl
@[simp] theorem setInputs_busy (l : List Event) (s : State) : (setInputs l s).busy = s.busy := rfl
@[simp] theorem setInputs_done (l : List Event) (s : State) : (setInputs l s).done = s.done := rfl
@[simp] theorem setInputs_ign (l : List Event) (s : State) : (setInputs l s).ign = s.ign := rfl
@[simp] theorem setInputs_seqState (l : List Event) (s : State) :
    (setInputs l s).seqState = s.seqState := rfl
@[simp] theorem setInputs_busOpen (l : List Event) (s : State) :
    (setInputs l s).busOpen = s.busOpen := rfl
@[simp] theorem setInputs_calValid (l : List Event) (s : State) :
    (setInputs l s).calValid = s.calValid := rfl
@[simp] theorem setInputs_tvalid (l : List Event) (s : State) :
    (setInputs l s).tvalid = s.tvalid := rfl
@[simp] theorem setInputs_pvalid (l : List Event) (s : State) :
    (setInputs l s).pvalid = s.pvalid := rfl
@[simp] theorem setInputs_p32valid (l : List Event) (s : State) :
    (setInputs l s).p32valid = s.p32valid := rfl
@[simp] theorem setInputs_avalid (l : List Event) (s : State) :
    (setInputs l s).avalid = s.avalid := rfl
@[simp] theorem setInputs_rvalid (l : List Event) (s : State) :
    (setInputs l s).rvalid = s.rvalid := rfl
@[simp] theorem setInputs_psent (l : List Event) (s : State) :
    (setInputs l s).psent = s.psent := rfl
@[simp] theorem setInputs_err (l : List Event) (s : State) : (setInputs l s).err = s.err := rfl
@[simp] theorem setInputs_devAddr (l : List Event) (s : State) :
    (setInputs l s).devAddr = s.devAddr := rfl
@[simp] theorem setInputs_slp (l : List Event) (s : State) : (setInputs l s).slp = s.slp := rfl
@[simp] theorem setInputs_rawT (l : List Event) (s : State) : (setInputs l s).rawT = s.rawT := rfl
@[simp] theorem setInputs_rawP (l : List Event) (s : State) : (setInputs l s).rawP = s.rawP := rfl
@[simp] theorem setInputs_tFine (l : List Event) (s : State) :
    (setInputs l s).tFine = s.tFine := rfl
@[simp] theorem setInputs_temp (l : List Event) (s : State) : (setInputs l s).temp = s.temp := rfl
@[simp] theorem setInputs_press (l : List Event) (s : State) :
    (setInputs l s).press = s.press := rfl
@[simp] theorem setInputs_press32 (l : List Event) (s : State) :
    (setInputs l s).press32 = s.press32 := rfl
@[simp] theorem setInputs_alt (l : List Event) (s : State) : (setInputs l s).alt = s.alt := rfl
@[simp] theorem setInputs_arg (l : List Event) (s : State) : (setInputs l s).arg = s.arg := rfl
@[simp] theorem setInputs_res (l : List Event) (s : State) : (setInputs l s).res = s.res := rfl
@[simp] theorem setInputs_cal (l : List Event) (s : State) : (setInputs l s).cal = s.cal := rfl
@[simp] theorem setInputs_cmdl (l : List Event) (s : State) : (setInputs l s).cmdl = s.cmdl := rfl
@[simp] theorem setInputs_seqStep (l : List Event) (s : State) :
    (setInputs l s).seqStep = s.seqStep := rfl
@[simp] theorem setInputs_shadow (l : List Event) (s : State) :
    (setInputs l s).shadow = s.shadow := rfl
@[simp] theorem setInputs_busreq (l : List Event) (s : State) :
    (setInputs l s).busreq = s.busreq := rfl
@[simp] theorem setInputs_inputs (l : List Event) (s : State) : (setInputs l s).inputs = l := rfl
@[simp] theorem setInputs_busLog (l : List Event) (s : State) :
    (setInputs l s).busLog = s.busLog := rfl
@[simp] theorem setInputs_portData (l : List Event) (s : State) :
    (setInputs l s).portData = s.portData := rfl
@[simp] theorem setInputs_draws (l : List Event) (s : State) :
    (setInputs l s).draws = s.draws := rfl

@[simp] theorem hostRead_ie (off : Byte) (s : State) : (hostRead off s).ie = s.ie := rfl
@[simp] theorem hostRead_busy (off : Byte) (s : State) : (hostRead off s).busy = s.busy := rfl
@[simp] theorem hostRead_done (off : Byte) (s : State) : (hostRead off s).done = s.done := rfl
@[simp] theorem hostRead_ign (off : Byte) (s : State) : (hostRead off s).ign = s.ign := rfl
@[simp] theorem hostRead_seqState (off : Byte) (s : State) :
    (hostRead off s).seqState = s.seqState := rfl
@[simp] theorem hostRead_busOpen (off : Byte) (s : State) :
    (hostRead off s).busOpen = s.busOpen := rfl
@[simp] theorem hostRead_calValid (off : Byte) (s : State) :
    (hostRead off s).calValid = s.calValid := rfl
@[simp] theorem hostRead_tvalid (off : Byte) (s : State) : (hostRead off s).tvalid = s.tvalid := rfl
@[simp] theorem hostRead_pvalid (off : Byte) (s : State) : (hostRead off s).pvalid = s.pvalid := rfl
@[simp] theorem hostRead_p32valid (off : Byte) (s : State) :
    (hostRead off s).p32valid = s.p32valid := rfl
@[simp] theorem hostRead_avalid (off : Byte) (s : State) : (hostRead off s).avalid = s.avalid := rfl
@[simp] theorem hostRead_rvalid (off : Byte) (s : State) : (hostRead off s).rvalid = s.rvalid := rfl
@[simp] theorem hostRead_psent (off : Byte) (s : State) : (hostRead off s).psent = s.psent := rfl
@[simp] theorem hostRead_err (off : Byte) (s : State) : (hostRead off s).err = s.err := rfl
@[simp] theorem hostRead_devAddr (off : Byte) (s : State) :
    (hostRead off s).devAddr = s.devAddr := rfl
@[simp] theorem hostRead_slp (off : Byte) (s : State) : (hostRead off s).slp = s.slp := rfl
@[simp] theorem hostRead_rawT (off : Byte) (s : State) : (hostRead off s).rawT = s.rawT := rfl
@[simp] theorem hostRead_rawP (off : Byte) (s : State) : (hostRead off s).rawP = s.rawP := rfl
@[simp] theorem hostRead_tFine (off : Byte) (s : State) : (hostRead off s).tFine = s.tFine := rfl
@[simp] theorem hostRead_temp (off : Byte) (s : State) : (hostRead off s).temp = s.temp := rfl
@[simp] theorem hostRead_press (off : Byte) (s : State) : (hostRead off s).press = s.press := rfl
@[simp] theorem hostRead_press32 (off : Byte) (s : State) :
    (hostRead off s).press32 = s.press32 := rfl
@[simp] theorem hostRead_alt (off : Byte) (s : State) : (hostRead off s).alt = s.alt := rfl
@[simp] theorem hostRead_arg (off : Byte) (s : State) : (hostRead off s).arg = s.arg := rfl
@[simp] theorem hostRead_res (off : Byte) (s : State) : (hostRead off s).res = s.res := rfl
@[simp] theorem hostRead_cal (off : Byte) (s : State) : (hostRead off s).cal = s.cal := rfl
@[simp] theorem hostRead_cmdl (off : Byte) (s : State) : (hostRead off s).cmdl = s.cmdl := rfl
@[simp] theorem hostRead_seqStep (off : Byte) (s : State) :
    (hostRead off s).seqStep = s.seqStep := rfl
@[simp] theorem hostRead_shadow (off : Byte) (s : State) : (hostRead off s).shadow = s.shadow := rfl
@[simp] theorem hostRead_busreq (off : Byte) (s : State) : (hostRead off s).busreq = s.busreq := rfl
@[simp] theorem hostRead_inputs (off : Byte) (s : State) : (hostRead off s).inputs = s.inputs := rfl
@[simp] theorem hostRead_busLog (off : Byte) (s : State) : (hostRead off s).busLog = s.busLog := rfl
@[simp] theorem hostRead_portData (off : Byte) (s : State) :
    (hostRead off s).portData = portValue off s := rfl
@[simp] theorem hostRead_draws (off : Byte) (s : State) : (hostRead off s).draws = s.draws := rfl

@[simp] theorem clearT_ie (s : State) : (clearT s).ie = s.ie := rfl
@[simp] theorem clearT_busy (s : State) : (clearT s).busy = s.busy := rfl
@[simp] theorem clearT_done (s : State) : (clearT s).done = s.done := rfl
@[simp] theorem clearT_ign (s : State) : (clearT s).ign = s.ign := rfl
@[simp] theorem clearT_seqState (s : State) : (clearT s).seqState = s.seqState := rfl
@[simp] theorem clearT_busOpen (s : State) : (clearT s).busOpen = s.busOpen := rfl
@[simp] theorem clearT_calValid (s : State) : (clearT s).calValid = s.calValid := rfl
@[simp] theorem clearT_tvalid (s : State) : (clearT s).tvalid = false := rfl
@[simp] theorem clearT_pvalid (s : State) : (clearT s).pvalid = s.pvalid := rfl
@[simp] theorem clearT_p32valid (s : State) : (clearT s).p32valid = s.p32valid := rfl
@[simp] theorem clearT_avalid (s : State) : (clearT s).avalid = s.avalid := rfl
@[simp] theorem clearT_rvalid (s : State) : (clearT s).rvalid = s.rvalid := rfl
@[simp] theorem clearT_psent (s : State) : (clearT s).psent = s.psent := rfl
@[simp] theorem clearT_err (s : State) : (clearT s).err = s.err := rfl
@[simp] theorem clearT_devAddr (s : State) : (clearT s).devAddr = s.devAddr := rfl
@[simp] theorem clearT_slp (s : State) : (clearT s).slp = s.slp := rfl
@[simp] theorem clearT_rawT (s : State) : (clearT s).rawT = s.rawT := rfl
@[simp] theorem clearT_rawP (s : State) : (clearT s).rawP = s.rawP := rfl
@[simp] theorem clearT_tFine (s : State) : (clearT s).tFine = s.tFine := rfl
@[simp] theorem clearT_temp (s : State) : (clearT s).temp = s.temp := rfl
@[simp] theorem clearT_press (s : State) : (clearT s).press = s.press := rfl
@[simp] theorem clearT_press32 (s : State) : (clearT s).press32 = s.press32 := rfl
@[simp] theorem clearT_alt (s : State) : (clearT s).alt = s.alt := rfl
@[simp] theorem clearT_arg (s : State) : (clearT s).arg = s.arg := rfl
@[simp] theorem clearT_res (s : State) : (clearT s).res = s.res := rfl
@[simp] theorem clearT_cal (s : State) : (clearT s).cal = s.cal := rfl
@[simp] theorem clearT_cmdl (s : State) : (clearT s).cmdl = s.cmdl := rfl
@[simp] theorem clearT_seqStep (s : State) : (clearT s).seqStep = s.seqStep := rfl
@[simp] theorem clearT_shadow (s : State) : (clearT s).shadow = s.shadow := rfl
@[simp] theorem clearT_busreq (s : State) : (clearT s).busreq = s.busreq := rfl
@[simp] theorem clearT_inputs (s : State) : (clearT s).inputs = s.inputs := rfl
@[simp] theorem clearT_busLog (s : State) : (clearT s).busLog = s.busLog := rfl
@[simp] theorem clearT_portData (s : State) : (clearT s).portData = s.portData := rfl
@[simp] theorem clearT_draws (s : State) : (clearT s).draws = s.draws := rfl

@[simp] theorem clearP_ie (s : State) : (clearP s).ie = s.ie := rfl
@[simp] theorem clearP_busy (s : State) : (clearP s).busy = s.busy := rfl
@[simp] theorem clearP_done (s : State) : (clearP s).done = s.done := rfl
@[simp] theorem clearP_ign (s : State) : (clearP s).ign = s.ign := rfl
@[simp] theorem clearP_seqState (s : State) : (clearP s).seqState = s.seqState := rfl
@[simp] theorem clearP_busOpen (s : State) : (clearP s).busOpen = s.busOpen := rfl
@[simp] theorem clearP_calValid (s : State) : (clearP s).calValid = s.calValid := rfl
@[simp] theorem clearP_tvalid (s : State) : (clearP s).tvalid = s.tvalid := rfl
@[simp] theorem clearP_pvalid (s : State) : (clearP s).pvalid = false := rfl
@[simp] theorem clearP_p32valid (s : State) : (clearP s).p32valid = s.p32valid := rfl
@[simp] theorem clearP_avalid (s : State) : (clearP s).avalid = s.avalid := rfl
@[simp] theorem clearP_rvalid (s : State) : (clearP s).rvalid = s.rvalid := rfl
@[simp] theorem clearP_psent (s : State) : (clearP s).psent = false := rfl
@[simp] theorem clearP_err (s : State) : (clearP s).err = s.err := rfl
@[simp] theorem clearP_devAddr (s : State) : (clearP s).devAddr = s.devAddr := rfl
@[simp] theorem clearP_slp (s : State) : (clearP s).slp = s.slp := rfl
@[simp] theorem clearP_rawT (s : State) : (clearP s).rawT = s.rawT := rfl
@[simp] theorem clearP_rawP (s : State) : (clearP s).rawP = s.rawP := rfl
@[simp] theorem clearP_tFine (s : State) : (clearP s).tFine = s.tFine := rfl
@[simp] theorem clearP_temp (s : State) : (clearP s).temp = s.temp := rfl
@[simp] theorem clearP_press (s : State) : (clearP s).press = s.press := rfl
@[simp] theorem clearP_press32 (s : State) : (clearP s).press32 = s.press32 := rfl
@[simp] theorem clearP_alt (s : State) : (clearP s).alt = s.alt := rfl
@[simp] theorem clearP_arg (s : State) : (clearP s).arg = s.arg := rfl
@[simp] theorem clearP_res (s : State) : (clearP s).res = s.res := rfl
@[simp] theorem clearP_cal (s : State) : (clearP s).cal = s.cal := rfl
@[simp] theorem clearP_cmdl (s : State) : (clearP s).cmdl = s.cmdl := rfl
@[simp] theorem clearP_seqStep (s : State) : (clearP s).seqStep = s.seqStep := rfl
@[simp] theorem clearP_shadow (s : State) : (clearP s).shadow = s.shadow := rfl
@[simp] theorem clearP_busreq (s : State) : (clearP s).busreq = s.busreq := rfl
@[simp] theorem clearP_inputs (s : State) : (clearP s).inputs = s.inputs := rfl
@[simp] theorem clearP_busLog (s : State) : (clearP s).busLog = s.busLog := rfl
@[simp] theorem clearP_portData (s : State) : (clearP s).portData = s.portData := rfl
@[simp] theorem clearP_draws (s : State) : (clearP s).draws = s.draws := rfl

@[simp] theorem clearP32_ie (s : State) : (clearP32 s).ie = s.ie := rfl
@[simp] theorem clearP32_busy (s : State) : (clearP32 s).busy = s.busy := rfl
@[simp] theorem clearP32_done (s : State) : (clearP32 s).done = s.done := rfl
@[simp] theorem clearP32_ign (s : State) : (clearP32 s).ign = s.ign := rfl
@[simp] theorem clearP32_seqState (s : State) : (clearP32 s).seqState = s.seqState := rfl
@[simp] theorem clearP32_busOpen (s : State) : (clearP32 s).busOpen = s.busOpen := rfl
@[simp] theorem clearP32_calValid (s : State) : (clearP32 s).calValid = s.calValid := rfl
@[simp] theorem clearP32_tvalid (s : State) : (clearP32 s).tvalid = s.tvalid := rfl
@[simp] theorem clearP32_pvalid (s : State) : (clearP32 s).pvalid = s.pvalid := rfl
@[simp] theorem clearP32_p32valid (s : State) : (clearP32 s).p32valid = false := rfl
@[simp] theorem clearP32_avalid (s : State) : (clearP32 s).avalid = s.avalid := rfl
@[simp] theorem clearP32_rvalid (s : State) : (clearP32 s).rvalid = s.rvalid := rfl
@[simp] theorem clearP32_psent (s : State) : (clearP32 s).psent = false := rfl
@[simp] theorem clearP32_err (s : State) : (clearP32 s).err = s.err := rfl
@[simp] theorem clearP32_devAddr (s : State) : (clearP32 s).devAddr = s.devAddr := rfl
@[simp] theorem clearP32_slp (s : State) : (clearP32 s).slp = s.slp := rfl
@[simp] theorem clearP32_rawT (s : State) : (clearP32 s).rawT = s.rawT := rfl
@[simp] theorem clearP32_rawP (s : State) : (clearP32 s).rawP = s.rawP := rfl
@[simp] theorem clearP32_tFine (s : State) : (clearP32 s).tFine = s.tFine := rfl
@[simp] theorem clearP32_temp (s : State) : (clearP32 s).temp = s.temp := rfl
@[simp] theorem clearP32_press (s : State) : (clearP32 s).press = s.press := rfl
@[simp] theorem clearP32_press32 (s : State) : (clearP32 s).press32 = s.press32 := rfl
@[simp] theorem clearP32_alt (s : State) : (clearP32 s).alt = s.alt := rfl
@[simp] theorem clearP32_arg (s : State) : (clearP32 s).arg = s.arg := rfl
@[simp] theorem clearP32_res (s : State) : (clearP32 s).res = s.res := rfl
@[simp] theorem clearP32_cal (s : State) : (clearP32 s).cal = s.cal := rfl
@[simp] theorem clearP32_cmdl (s : State) : (clearP32 s).cmdl = s.cmdl := rfl
@[simp] theorem clearP32_seqStep (s : State) : (clearP32 s).seqStep = s.seqStep := rfl
@[simp] theorem clearP32_shadow (s : State) : (clearP32 s).shadow = s.shadow := rfl
@[simp] theorem clearP32_busreq (s : State) : (clearP32 s).busreq = s.busreq := rfl
@[simp] theorem clearP32_inputs (s : State) : (clearP32 s).inputs = s.inputs := rfl
@[simp] theorem clearP32_busLog (s : State) : (clearP32 s).busLog = s.busLog := rfl
@[simp] theorem clearP32_portData (s : State) : (clearP32 s).portData = s.portData := rfl
@[simp] theorem clearP32_draws (s : State) : (clearP32 s).draws = s.draws := rfl

@[simp] theorem clearA_ie (s : State) : (clearA s).ie = s.ie := rfl
@[simp] theorem clearA_busy (s : State) : (clearA s).busy = s.busy := rfl
@[simp] theorem clearA_done (s : State) : (clearA s).done = s.done := rfl
@[simp] theorem clearA_ign (s : State) : (clearA s).ign = s.ign := rfl
@[simp] theorem clearA_seqState (s : State) : (clearA s).seqState = s.seqState := rfl
@[simp] theorem clearA_busOpen (s : State) : (clearA s).busOpen = s.busOpen := rfl
@[simp] theorem clearA_calValid (s : State) : (clearA s).calValid = s.calValid := rfl
@[simp] theorem clearA_tvalid (s : State) : (clearA s).tvalid = s.tvalid := rfl
@[simp] theorem clearA_pvalid (s : State) : (clearA s).pvalid = s.pvalid := rfl
@[simp] theorem clearA_p32valid (s : State) : (clearA s).p32valid = s.p32valid := rfl
@[simp] theorem clearA_avalid (s : State) : (clearA s).avalid = false := rfl
@[simp] theorem clearA_rvalid (s : State) : (clearA s).rvalid = s.rvalid := rfl
@[simp] theorem clearA_psent (s : State) : (clearA s).psent = s.psent := rfl
@[simp] theorem clearA_err (s : State) : (clearA s).err = s.err := rfl
@[simp] theorem clearA_devAddr (s : State) : (clearA s).devAddr = s.devAddr := rfl
@[simp] theorem clearA_slp (s : State) : (clearA s).slp = s.slp := rfl
@[simp] theorem clearA_rawT (s : State) : (clearA s).rawT = s.rawT := rfl
@[simp] theorem clearA_rawP (s : State) : (clearA s).rawP = s.rawP := rfl
@[simp] theorem clearA_tFine (s : State) : (clearA s).tFine = s.tFine := rfl
@[simp] theorem clearA_temp (s : State) : (clearA s).temp = s.temp := rfl
@[simp] theorem clearA_press (s : State) : (clearA s).press = s.press := rfl
@[simp] theorem clearA_press32 (s : State) : (clearA s).press32 = s.press32 := rfl
@[simp] theorem clearA_alt (s : State) : (clearA s).alt = s.alt := rfl
@[simp] theorem clearA_arg (s : State) : (clearA s).arg = s.arg := rfl
@[simp] theorem clearA_res (s : State) : (clearA s).res = s.res := rfl
@[simp] theorem clearA_cal (s : State) : (clearA s).cal = s.cal := rfl
@[simp] theorem clearA_cmdl (s : State) : (clearA s).cmdl = s.cmdl := rfl
@[simp] theorem clearA_seqStep (s : State) : (clearA s).seqStep = s.seqStep := rfl
@[simp] theorem clearA_shadow (s : State) : (clearA s).shadow = s.shadow := rfl
@[simp] theorem clearA_busreq (s : State) : (clearA s).busreq = s.busreq := rfl
@[simp] theorem clearA_inputs (s : State) : (clearA s).inputs = s.inputs := rfl
@[simp] theorem clearA_busLog (s : State) : (clearA s).busLog = s.busLog := rfl
@[simp] theorem clearA_portData (s : State) : (clearA s).portData = s.portData := rfl
@[simp] theorem clearA_draws (s : State) : (clearA s).draws = s.draws := rfl

@[simp] theorem clearPA_ie (s : State) : (clearPA s).ie = s.ie := rfl
@[simp] theorem clearPA_busy (s : State) : (clearPA s).busy = s.busy := rfl
@[simp] theorem clearPA_done (s : State) : (clearPA s).done = s.done := rfl
@[simp] theorem clearPA_ign (s : State) : (clearPA s).ign = s.ign := rfl
@[simp] theorem clearPA_seqState (s : State) : (clearPA s).seqState = s.seqState := rfl
@[simp] theorem clearPA_busOpen (s : State) : (clearPA s).busOpen = s.busOpen := rfl
@[simp] theorem clearPA_calValid (s : State) : (clearPA s).calValid = s.calValid := rfl
@[simp] theorem clearPA_tvalid (s : State) : (clearPA s).tvalid = s.tvalid := rfl
@[simp] theorem clearPA_pvalid (s : State) : (clearPA s).pvalid = false := rfl
@[simp] theorem clearPA_p32valid (s : State) : (clearPA s).p32valid = s.p32valid := rfl
@[simp] theorem clearPA_avalid (s : State) : (clearPA s).avalid = false := rfl
@[simp] theorem clearPA_rvalid (s : State) : (clearPA s).rvalid = s.rvalid := rfl
@[simp] theorem clearPA_psent (s : State) : (clearPA s).psent = false := rfl
@[simp] theorem clearPA_err (s : State) : (clearPA s).err = s.err := rfl
@[simp] theorem clearPA_devAddr (s : State) : (clearPA s).devAddr = s.devAddr := rfl
@[simp] theorem clearPA_slp (s : State) : (clearPA s).slp = s.slp := rfl
@[simp] theorem clearPA_rawT (s : State) : (clearPA s).rawT = s.rawT := rfl
@[simp] theorem clearPA_rawP (s : State) : (clearPA s).rawP = s.rawP := rfl
@[simp] theorem clearPA_tFine (s : State) : (clearPA s).tFine = s.tFine := rfl
@[simp] theorem clearPA_temp (s : State) : (clearPA s).temp = s.temp := rfl
@[simp] theorem clearPA_press (s : State) : (clearPA s).press = s.press := rfl
@[simp] theorem clearPA_press32 (s : State) : (clearPA s).press32 = s.press32 := rfl
@[simp] theorem clearPA_alt (s : State) : (clearPA s).alt = s.alt := rfl
@[simp] theorem clearPA_arg (s : State) : (clearPA s).arg = s.arg := rfl
@[simp] theorem clearPA_res (s : State) : (clearPA s).res = s.res := rfl
@[simp] theorem clearPA_cal (s : State) : (clearPA s).cal = s.cal := rfl
@[simp] theorem clearPA_cmdl (s : State) : (clearPA s).cmdl = s.cmdl := rfl
@[simp] theorem clearPA_seqStep (s : State) : (clearPA s).seqStep = s.seqStep := rfl
@[simp] theorem clearPA_shadow (s : State) : (clearPA s).shadow = s.shadow := rfl
@[simp] theorem clearPA_busreq (s : State) : (clearPA s).busreq = s.busreq := rfl
@[simp] theorem clearPA_inputs (s : State) : (clearPA s).inputs = s.inputs := rfl
@[simp] theorem clearPA_busLog (s : State) : (clearPA s).busLog = s.busLog := rfl
@[simp] theorem clearPA_portData (s : State) : (clearPA s).portData = s.portData := rfl
@[simp] theorem clearPA_draws (s : State) : (clearPA s).draws = s.draws := rfl

@[simp] theorem clearR_ie (s : State) : (clearR s).ie = s.ie := rfl
@[simp] theorem clearR_busy (s : State) : (clearR s).busy = s.busy := rfl
@[simp] theorem clearR_done (s : State) : (clearR s).done = s.done := rfl
@[simp] theorem clearR_ign (s : State) : (clearR s).ign = s.ign := rfl
@[simp] theorem clearR_seqState (s : State) : (clearR s).seqState = s.seqState := rfl
@[simp] theorem clearR_busOpen (s : State) : (clearR s).busOpen = s.busOpen := rfl
@[simp] theorem clearR_calValid (s : State) : (clearR s).calValid = s.calValid := rfl
@[simp] theorem clearR_tvalid (s : State) : (clearR s).tvalid = s.tvalid := rfl
@[simp] theorem clearR_pvalid (s : State) : (clearR s).pvalid = s.pvalid := rfl
@[simp] theorem clearR_p32valid (s : State) : (clearR s).p32valid = s.p32valid := rfl
@[simp] theorem clearR_avalid (s : State) : (clearR s).avalid = s.avalid := rfl
@[simp] theorem clearR_rvalid (s : State) : (clearR s).rvalid = false := rfl
@[simp] theorem clearR_psent (s : State) : (clearR s).psent = s.psent := rfl
@[simp] theorem clearR_err (s : State) : (clearR s).err = s.err := rfl
@[simp] theorem clearR_devAddr (s : State) : (clearR s).devAddr = s.devAddr := rfl
@[simp] theorem clearR_slp (s : State) : (clearR s).slp = s.slp := rfl
@[simp] theorem clearR_rawT (s : State) : (clearR s).rawT = s.rawT := rfl
@[simp] theorem clearR_rawP (s : State) : (clearR s).rawP = s.rawP := rfl
@[simp] theorem clearR_tFine (s : State) : (clearR s).tFine = s.tFine := rfl
@[simp] theorem clearR_temp (s : State) : (clearR s).temp = s.temp := rfl
@[simp] theorem clearR_press (s : State) : (clearR s).press = s.press := rfl
@[simp] theorem clearR_press32 (s : State) : (clearR s).press32 = s.press32 := rfl
@[simp] theorem clearR_alt (s : State) : (clearR s).alt = s.alt := rfl
@[simp] theorem clearR_arg (s : State) : (clearR s).arg = s.arg := rfl
@[simp] theorem clearR_res (s : State) : (clearR s).res = s.res := rfl
@[simp] theorem clearR_cal (s : State) : (clearR s).cal = s.cal := rfl
@[simp] theorem clearR_cmdl (s : State) : (clearR s).cmdl = s.cmdl := rfl
@[simp] theorem clearR_seqStep (s : State) : (clearR s).seqStep = s.seqStep := rfl
@[simp] theorem clearR_shadow (s : State) : (clearR s).shadow = s.shadow := rfl
@[simp] theorem clearR_busreq (s : State) : (clearR s).busreq = s.busreq := rfl
@[simp] theorem clearR_inputs (s : State) : (clearR s).inputs = s.inputs := rfl
@[simp] theorem clearR_busLog (s : State) : (clearR s).busLog = s.busLog := rfl
@[simp] theorem clearR_portData (s : State) : (clearR s).portData = s.portData := rfl
@[simp] theorem clearR_draws (s : State) : (clearR s).draws = s.draws := rfl

@[simp] theorem clearEpoch_ie (s : State) : (clearEpoch s).ie = s.ie := rfl
@[simp] theorem clearEpoch_busy (s : State) : (clearEpoch s).busy = s.busy := rfl
@[simp] theorem clearEpoch_done (s : State) : (clearEpoch s).done = s.done := rfl
@[simp] theorem clearEpoch_ign (s : State) : (clearEpoch s).ign = s.ign := rfl
@[simp] theorem clearEpoch_seqState (s : State) : (clearEpoch s).seqState = .uninit := rfl
@[simp] theorem clearEpoch_busOpen (s : State) : (clearEpoch s).busOpen = false := rfl
@[simp] theorem clearEpoch_calValid (s : State) : (clearEpoch s).calValid = false := rfl
@[simp] theorem clearEpoch_tvalid (s : State) : (clearEpoch s).tvalid = false := rfl
@[simp] theorem clearEpoch_pvalid (s : State) : (clearEpoch s).pvalid = false := rfl
@[simp] theorem clearEpoch_p32valid (s : State) : (clearEpoch s).p32valid = false := rfl
@[simp] theorem clearEpoch_avalid (s : State) : (clearEpoch s).avalid = false := rfl
@[simp] theorem clearEpoch_rvalid (s : State) : (clearEpoch s).rvalid = s.rvalid := rfl
@[simp] theorem clearEpoch_psent (s : State) : (clearEpoch s).psent = false := rfl
@[simp] theorem clearEpoch_err (s : State) : (clearEpoch s).err = s.err := rfl
@[simp] theorem clearEpoch_devAddr (s : State) : (clearEpoch s).devAddr = s.devAddr := rfl
@[simp] theorem clearEpoch_slp (s : State) : (clearEpoch s).slp = s.slp := rfl
@[simp] theorem clearEpoch_rawT (s : State) : (clearEpoch s).rawT = s.rawT := rfl
@[simp] theorem clearEpoch_rawP (s : State) : (clearEpoch s).rawP = s.rawP := rfl
@[simp] theorem clearEpoch_tFine (s : State) : (clearEpoch s).tFine = s.tFine := rfl
@[simp] theorem clearEpoch_temp (s : State) : (clearEpoch s).temp = s.temp := rfl
@[simp] theorem clearEpoch_press (s : State) : (clearEpoch s).press = s.press := rfl
@[simp] theorem clearEpoch_press32 (s : State) : (clearEpoch s).press32 = s.press32 := rfl
@[simp] theorem clearEpoch_alt (s : State) : (clearEpoch s).alt = s.alt := rfl
@[simp] theorem clearEpoch_arg (s : State) : (clearEpoch s).arg = s.arg := rfl
@[simp] theorem clearEpoch_res (s : State) : (clearEpoch s).res = s.res := rfl
@[simp] theorem clearEpoch_cal (s : State) : (clearEpoch s).cal = Config.freeCal s.draws := rfl
@[simp] theorem clearEpoch_cmdl (s : State) : (clearEpoch s).cmdl = s.cmdl := rfl
@[simp] theorem clearEpoch_seqStep (s : State) : (clearEpoch s).seqStep = s.seqStep := rfl
@[simp] theorem clearEpoch_shadow (s : State) : (clearEpoch s).shadow = s.shadow := rfl
@[simp] theorem clearEpoch_busreq (s : State) : (clearEpoch s).busreq = s.busreq := rfl
@[simp] theorem clearEpoch_inputs (s : State) : (clearEpoch s).inputs = s.inputs := rfl
@[simp] theorem clearEpoch_busLog (s : State) : (clearEpoch s).busLog = s.busLog := rfl
@[simp] theorem clearEpoch_portData (s : State) : (clearEpoch s).portData = s.portData := rfl
@[simp] theorem clearEpoch_draws (s : State) : (clearEpoch s).draws = s.draws + 1 := rfl

@[simp] theorem temperatureStage_ie (s : State) : (temperatureStage s).ie = s.ie := rfl
@[simp] theorem temperatureStage_busy (s : State) : (temperatureStage s).busy = s.busy := rfl
@[simp] theorem temperatureStage_done (s : State) : (temperatureStage s).done = s.done := rfl
@[simp] theorem temperatureStage_ign (s : State) : (temperatureStage s).ign = s.ign := rfl
@[simp] theorem temperatureStage_seqState (s : State) :
    (temperatureStage s).seqState = s.seqState := rfl
@[simp] theorem temperatureStage_busOpen (s : State) :
    (temperatureStage s).busOpen = s.busOpen := rfl
@[simp] theorem temperatureStage_calValid (s : State) :
    (temperatureStage s).calValid = s.calValid := rfl
@[simp] theorem temperatureStage_tvalid (s : State) : (temperatureStage s).tvalid = true := rfl
@[simp] theorem temperatureStage_pvalid (s : State) : (temperatureStage s).pvalid = s.pvalid := rfl
@[simp] theorem temperatureStage_p32valid (s : State) :
    (temperatureStage s).p32valid = s.p32valid := rfl
@[simp] theorem temperatureStage_avalid (s : State) : (temperatureStage s).avalid = s.avalid := rfl
@[simp] theorem temperatureStage_rvalid (s : State) : (temperatureStage s).rvalid = s.rvalid := rfl
@[simp] theorem temperatureStage_psent (s : State) : (temperatureStage s).psent = s.psent := rfl
@[simp] theorem temperatureStage_err (s : State) : (temperatureStage s).err = s.err := rfl
@[simp] theorem temperatureStage_devAddr (s : State) :
    (temperatureStage s).devAddr = s.devAddr := rfl
@[simp] theorem temperatureStage_slp (s : State) : (temperatureStage s).slp = s.slp := rfl
@[simp] theorem temperatureStage_rawT (s : State) : (temperatureStage s).rawT = s.rawT := rfl
@[simp] theorem temperatureStage_rawP (s : State) : (temperatureStage s).rawP = s.rawP := rfl
@[simp] theorem temperatureStage_tFine (s : State) :
    (temperatureStage s).tFine = BitVec.ofInt 32 (compT s.rawT s.cal.t1 s.cal.t2 s.cal.t3) := rfl
@[simp] theorem temperatureStage_temp (s : State) :
    (temperatureStage s).temp = BitVec.ofInt 32 (temp100 (compT s.rawT s.cal.t1 s.cal.t2 s.cal.t3)) := rfl
@[simp] theorem temperatureStage_press (s : State) : (temperatureStage s).press = s.press := rfl
@[simp] theorem temperatureStage_press32 (s : State) :
    (temperatureStage s).press32 = s.press32 := rfl
@[simp] theorem temperatureStage_alt (s : State) : (temperatureStage s).alt = s.alt := rfl
@[simp] theorem temperatureStage_arg (s : State) : (temperatureStage s).arg = s.arg := rfl
@[simp] theorem temperatureStage_res (s : State) : (temperatureStage s).res = s.res := rfl
@[simp] theorem temperatureStage_cal (s : State) : (temperatureStage s).cal = s.cal := rfl
@[simp] theorem temperatureStage_cmdl (s : State) : (temperatureStage s).cmdl = s.cmdl := rfl
@[simp] theorem temperatureStage_seqStep (s : State) :
    (temperatureStage s).seqStep = s.seqStep := rfl
@[simp] theorem temperatureStage_shadow (s : State) : (temperatureStage s).shadow = s.shadow := rfl
@[simp] theorem temperatureStage_busreq (s : State) : (temperatureStage s).busreq = s.busreq := rfl
@[simp] theorem temperatureStage_inputs (s : State) : (temperatureStage s).inputs = s.inputs := rfl
@[simp] theorem temperatureStage_busLog (s : State) : (temperatureStage s).busLog = s.busLog := rfl
@[simp] theorem temperatureStage_portData (s : State) :
    (temperatureStage s).portData = s.portData := rfl
@[simp] theorem temperatureStage_draws (s : State) : (temperatureStage s).draws = s.draws := rfl

@[simp] theorem pressureStage_ie (s : State) : (pressureStage s).ie = s.ie := rfl
@[simp] theorem pressureStage_busy (s : State) : (pressureStage s).busy = s.busy := rfl
@[simp] theorem pressureStage_done (s : State) : (pressureStage s).done = s.done := rfl
@[simp] theorem pressureStage_ign (s : State) : (pressureStage s).ign = s.ign := rfl
@[simp] theorem pressureStage_seqState (s : State) : (pressureStage s).seqState = s.seqState := rfl
@[simp] theorem pressureStage_busOpen (s : State) : (pressureStage s).busOpen = s.busOpen := rfl
@[simp] theorem pressureStage_calValid (s : State) : (pressureStage s).calValid = s.calValid := rfl
@[simp] theorem pressureStage_tvalid (s : State) : (pressureStage s).tvalid = s.tvalid := rfl
@[simp] theorem pressureStage_pvalid (s : State) :
    (pressureStage s).pvalid = true := by simp only [pressureStage]
@[simp] theorem pressureStage_p32valid (s : State) : (pressureStage s).p32valid = s.p32valid := rfl
@[simp] theorem pressureStage_avalid (s : State) : (pressureStage s).avalid = s.avalid := rfl
@[simp] theorem pressureStage_rvalid (s : State) : (pressureStage s).rvalid = s.rvalid := rfl
@[simp] theorem pressureStage_psent (s : State) :
    (pressureStage s).psent = (compP64 s.tFine s.rawP s.cal).2 := by simp only [pressureStage]
@[simp] theorem pressureStage_err (s : State) : (pressureStage s).err = s.err := rfl
@[simp] theorem pressureStage_devAddr (s : State) : (pressureStage s).devAddr = s.devAddr := rfl
@[simp] theorem pressureStage_slp (s : State) : (pressureStage s).slp = s.slp := rfl
@[simp] theorem pressureStage_rawT (s : State) : (pressureStage s).rawT = s.rawT := rfl
@[simp] theorem pressureStage_rawP (s : State) : (pressureStage s).rawP = s.rawP := rfl
@[simp] theorem pressureStage_tFine (s : State) : (pressureStage s).tFine = s.tFine := rfl
@[simp] theorem pressureStage_temp (s : State) : (pressureStage s).temp = s.temp := rfl
@[simp] theorem pressureStage_press (s : State) :
    (pressureStage s).press = (compP64 s.tFine s.rawP s.cal).1 := by simp only [pressureStage]
@[simp] theorem pressureStage_press32 (s : State) : (pressureStage s).press32 = s.press32 := rfl
@[simp] theorem pressureStage_alt (s : State) : (pressureStage s).alt = s.alt := rfl
@[simp] theorem pressureStage_arg (s : State) : (pressureStage s).arg = s.arg := rfl
@[simp] theorem pressureStage_res (s : State) : (pressureStage s).res = s.res := rfl
@[simp] theorem pressureStage_cal (s : State) : (pressureStage s).cal = s.cal := rfl
@[simp] theorem pressureStage_cmdl (s : State) : (pressureStage s).cmdl = s.cmdl := rfl
@[simp] theorem pressureStage_seqStep (s : State) : (pressureStage s).seqStep = s.seqStep := rfl
@[simp] theorem pressureStage_shadow (s : State) : (pressureStage s).shadow = s.shadow := rfl
@[simp] theorem pressureStage_busreq (s : State) : (pressureStage s).busreq = s.busreq := rfl
@[simp] theorem pressureStage_inputs (s : State) : (pressureStage s).inputs = s.inputs := rfl
@[simp] theorem pressureStage_busLog (s : State) : (pressureStage s).busLog = s.busLog := rfl
@[simp] theorem pressureStage_portData (s : State) : (pressureStage s).portData = s.portData := rfl
@[simp] theorem pressureStage_draws (s : State) : (pressureStage s).draws = s.draws := rfl

@[simp] theorem pressure32Stage_ie (s : State) : (pressure32Stage s).ie = s.ie := rfl
@[simp] theorem pressure32Stage_busy (s : State) : (pressure32Stage s).busy = s.busy := rfl
@[simp] theorem pressure32Stage_done (s : State) : (pressure32Stage s).done = s.done := rfl
@[simp] theorem pressure32Stage_ign (s : State) : (pressure32Stage s).ign = s.ign := rfl
@[simp] theorem pressure32Stage_seqState (s : State) :
    (pressure32Stage s).seqState = s.seqState := rfl
@[simp] theorem pressure32Stage_busOpen (s : State) : (pressure32Stage s).busOpen = s.busOpen := rfl
@[simp] theorem pressure32Stage_calValid (s : State) :
    (pressure32Stage s).calValid = s.calValid := rfl
@[simp] theorem pressure32Stage_tvalid (s : State) : (pressure32Stage s).tvalid = s.tvalid := rfl
@[simp] theorem pressure32Stage_pvalid (s : State) : (pressure32Stage s).pvalid = s.pvalid := rfl
@[simp] theorem pressure32Stage_p32valid (s : State) :
    (pressure32Stage s).p32valid = true := by simp only [pressure32Stage]
@[simp] theorem pressure32Stage_avalid (s : State) : (pressure32Stage s).avalid = s.avalid := rfl
@[simp] theorem pressure32Stage_rvalid (s : State) : (pressure32Stage s).rvalid = s.rvalid := rfl
@[simp] theorem pressure32Stage_psent (s : State) :
    (pressure32Stage s).psent = (compP32 s.tFine s.rawP s.cal).2 := by simp only [pressure32Stage]
@[simp] theorem pressure32Stage_err (s : State) : (pressure32Stage s).err = s.err := rfl
@[simp] theorem pressure32Stage_devAddr (s : State) : (pressure32Stage s).devAddr = s.devAddr := rfl
@[simp] theorem pressure32Stage_slp (s : State) : (pressure32Stage s).slp = s.slp := rfl
@[simp] theorem pressure32Stage_rawT (s : State) : (pressure32Stage s).rawT = s.rawT := rfl
@[simp] theorem pressure32Stage_rawP (s : State) : (pressure32Stage s).rawP = s.rawP := rfl
@[simp] theorem pressure32Stage_tFine (s : State) : (pressure32Stage s).tFine = s.tFine := rfl
@[simp] theorem pressure32Stage_temp (s : State) : (pressure32Stage s).temp = s.temp := rfl
@[simp] theorem pressure32Stage_press (s : State) : (pressure32Stage s).press = s.press := rfl
@[simp] theorem pressure32Stage_press32 (s : State) :
    (pressure32Stage s).press32 = (compP32 s.tFine s.rawP s.cal).1 := by simp only [pressure32Stage]
@[simp] theorem pressure32Stage_alt (s : State) : (pressure32Stage s).alt = s.alt := rfl
@[simp] theorem pressure32Stage_arg (s : State) : (pressure32Stage s).arg = s.arg := rfl
@[simp] theorem pressure32Stage_res (s : State) : (pressure32Stage s).res = s.res := rfl
@[simp] theorem pressure32Stage_cal (s : State) : (pressure32Stage s).cal = s.cal := rfl
@[simp] theorem pressure32Stage_cmdl (s : State) : (pressure32Stage s).cmdl = s.cmdl := rfl
@[simp] theorem pressure32Stage_seqStep (s : State) : (pressure32Stage s).seqStep = s.seqStep := rfl
@[simp] theorem pressure32Stage_shadow (s : State) : (pressure32Stage s).shadow = s.shadow := rfl
@[simp] theorem pressure32Stage_busreq (s : State) : (pressure32Stage s).busreq = s.busreq := rfl
@[simp] theorem pressure32Stage_inputs (s : State) : (pressure32Stage s).inputs = s.inputs := rfl
@[simp] theorem pressure32Stage_busLog (s : State) : (pressure32Stage s).busLog = s.busLog := rfl
@[simp] theorem pressure32Stage_portData (s : State) :
    (pressure32Stage s).portData = s.portData := rfl
@[simp] theorem pressure32Stage_draws (s : State) : (pressure32Stage s).draws = s.draws := rfl

@[simp] theorem altitudeStage_ie (s : State) : (altitudeStage s).ie = s.ie := rfl
@[simp] theorem altitudeStage_busy (s : State) : (altitudeStage s).busy = s.busy := rfl
@[simp] theorem altitudeStage_done (s : State) : (altitudeStage s).done = s.done := rfl
@[simp] theorem altitudeStage_ign (s : State) : (altitudeStage s).ign = s.ign := rfl
@[simp] theorem altitudeStage_seqState (s : State) : (altitudeStage s).seqState = s.seqState := rfl
@[simp] theorem altitudeStage_busOpen (s : State) : (altitudeStage s).busOpen = s.busOpen := rfl
@[simp] theorem altitudeStage_calValid (s : State) : (altitudeStage s).calValid = s.calValid := rfl
@[simp] theorem altitudeStage_tvalid (s : State) : (altitudeStage s).tvalid = s.tvalid := rfl
@[simp] theorem altitudeStage_pvalid (s : State) : (altitudeStage s).pvalid = s.pvalid := rfl
@[simp] theorem altitudeStage_p32valid (s : State) : (altitudeStage s).p32valid = s.p32valid := rfl
@[simp] theorem altitudeStage_avalid (s : State) : (altitudeStage s).avalid = true := rfl
@[simp] theorem altitudeStage_rvalid (s : State) : (altitudeStage s).rvalid = s.rvalid := rfl
@[simp] theorem altitudeStage_psent (s : State) : (altitudeStage s).psent = s.psent := rfl
@[simp] theorem altitudeStage_err (s : State) : (altitudeStage s).err = s.err := rfl
@[simp] theorem altitudeStage_devAddr (s : State) : (altitudeStage s).devAddr = s.devAddr := rfl
@[simp] theorem altitudeStage_slp (s : State) : (altitudeStage s).slp = s.slp := rfl
@[simp] theorem altitudeStage_rawT (s : State) : (altitudeStage s).rawT = s.rawT := rfl
@[simp] theorem altitudeStage_rawP (s : State) : (altitudeStage s).rawP = s.rawP := rfl
@[simp] theorem altitudeStage_tFine (s : State) : (altitudeStage s).tFine = s.tFine := rfl
@[simp] theorem altitudeStage_temp (s : State) : (altitudeStage s).temp = s.temp := rfl
@[simp] theorem altitudeStage_press (s : State) : (altitudeStage s).press = s.press := rfl
@[simp] theorem altitudeStage_press32 (s : State) : (altitudeStage s).press32 = s.press32 := rfl
@[simp] theorem altitudeStage_alt (s : State) :
    (altitudeStage s).alt = BitVec.ofInt 32 (altfx s.press s.slp) := rfl
@[simp] theorem altitudeStage_arg (s : State) : (altitudeStage s).arg = s.arg := rfl
@[simp] theorem altitudeStage_res (s : State) : (altitudeStage s).res = s.res := rfl
@[simp] theorem altitudeStage_cal (s : State) : (altitudeStage s).cal = s.cal := rfl
@[simp] theorem altitudeStage_cmdl (s : State) : (altitudeStage s).cmdl = s.cmdl := rfl
@[simp] theorem altitudeStage_seqStep (s : State) : (altitudeStage s).seqStep = s.seqStep := rfl
@[simp] theorem altitudeStage_shadow (s : State) : (altitudeStage s).shadow = s.shadow := rfl
@[simp] theorem altitudeStage_busreq (s : State) : (altitudeStage s).busreq = s.busreq := rfl
@[simp] theorem altitudeStage_inputs (s : State) : (altitudeStage s).inputs = s.inputs := rfl
@[simp] theorem altitudeStage_busLog (s : State) : (altitudeStage s).busLog = s.busLog := rfl
@[simp] theorem altitudeStage_portData (s : State) : (altitudeStage s).portData = s.portData := rfl
@[simp] theorem altitudeStage_draws (s : State) : (altitudeStage s).draws = s.draws := rfl

end Sys2Proof.Machine
end

