-- ==== Sys2Proof/Laws/HostPort.lean ====
section
/-! SUPPORT. The host port's register map, said once. -/

namespace Sys2Proof.Machine

/-- R20: the map's offsets and the port's decoding agree. -/
@[simp] theorem regAt_regOffset (r : HostReg) : regAt (regOffset r) = some r := by
  cases r with
  | cal i => revert i; decide
  | _ => rfl

@[simp] theorem regAt_cal (i : Fin 12) : regAt (BitVec.ofNat 8 (0x40 + 4 * i.val)) = some (.cal i) :=
  regAt_regOffset (.cal i)

/-- R61: the port looks only at the word an offset lies in. -/
theorem regAt_congr {a b : Byte} (h : a.toNat / 4 = b.toNat / 4) : regAt a = regAt b := by
  unfold regAt; rw [h]

/-- R62: the reserved offsets. -/
theorem regAt_reserved {off : Byte} (h : off.toNat / 4 = 15 ∨ 28 ≤ off.toNat / 4) :
    regAt off = none := by
  have hlt : off.toNat / 4 < 64 := by have := off.isLt; omega
  unfold regAt
  generalize off.toNat / 4 = n at h hlt
  rcases h with rfl | h
  · rfl
  · interval_cases n <;> rfl

/-- R20: the word number of a register found at an offset. -/
theorem index_of_regAt {off : Byte} {r : HostReg} (h : regAt off = some r) :
    off.toNat / 4 = (regOffset r).toNat / 4 := by
  unfold regAt at h
  generalize off.toNat / 4 = n at h ⊢
  unfold regOfIndex at h
  split at h <;> cases h <;> rfl

/-- R62: only the reserved offsets hold no register. -/
theorem reserved_of_regAt {off : Byte} (h : regAt off = none) :
    off.toNat / 4 = 15 ∨ 28 ≤ off.toNat / 4 := by
  unfold regAt at h
  generalize off.toNat / 4 = n at h ⊢
  by_contra hc
  have : n < 28 := by omega
  interval_cases n <;> simp [regOfIndex] at h hc

theorem portValue_of_regAt {off : Byte} {r : HostReg} (h : regAt off = some r) (s : State) :
    portValue off s = regValue r s := by
  simp [portValue, h]

theorem hostWrite_of_regAt {off : Byte} {r : HostReg} (h : regAt off = some r) (v : Word) (s : State) :
    hostWrite off v s = regWrite r v s := by
  simp [hostWrite, h]

/-- R64: no read depends on the schedule or on what the last read returned. -/
theorem portValue_env (off off' : Byte) (s : State) (l : List Event) :
    portValue off (hostRead off' (setInputs l s)) = portValue off s := by
  unfold portValue
  split
  · cases ‹HostReg› <;> rfl
  · rfl

end Sys2Proof.Machine
end

