-- ==== Sys2Proof/Laws/Step.lean ====
section
/-! SUPPORT. What one step can do, said once: the step by the event at the head of the schedule, the
engine's turn by its position, and that no step faults or is refused. -/

namespace Sys2Proof.Machine

theorem step_nil {s : State} (h : s.inputs = []) : step s = engineTurn s := by
  simp [step, h]

theorem step_cons {s : State} {e : Event} {rest : List Event} (h : s.inputs = e :: rest) :
    step s = handleEvent e (setInputs rest s) := by
  simp [step, h]

theorem engineTurn_decode {s : State} (h : s.seqStep = .decode) : engineTurn s = decodeStep s := by
  simp [engineTurn, h]

theorem engineTurn_stays {s : State} (h : s.seqStep ≠ .decode) : engineTurn s = .next s := by
  unfold engineTurn
  split
  · exact absurd ‹_› h
  · rfl

/-- DECODE of a word that is a command. -/
theorem decodeStep_ok {s : State} {i : Instr} (h : decode s.cmdl = .ok i) : decodeStep s = exec i s := by
  simp [decodeStep, h]

/-- DECODE of a word that is none. -/
theorem decodeStep_illegal {s : State} {e : DecodeError} (h : decode s.cmdl = .error e) :
    decodeStep s = .next (completeIllegal s) := by
  simp [decodeStep, h]

/-- The step that consumes an answer. -/
theorem step_answer {s : State} {a : BusAnswer} {rest : List Event} (h : s.inputs = .answer a :: rest) :
    step s = .next (consumeAnswer a (setInputs rest s)) := step_cons h

/-- A run of one more step. -/
theorem run_succ {s t : State} (k : Nat) (h : step s = .next t) :
    Host.Core.run core (k + 1) s = Host.Core.run core k t := by
  have hc : core.step s = .next t := h
  simp [Host.Core.run, hc]

theorem consumeAnswer_discarded {s : State} (a : BusAnswer) (h : s.busreq = none) :
    consumeAnswer a s = s := by
  simp [consumeAnswer, h]

/-- Every meaning answers a next state (R212: BPCE has no trap). -/
theorem exec_next (i : Instr) (s : State) : ∃ t, exec i s = .next t := by
  cases i <;>
    simp only [exec, execNop, execInit, execReadT, execReadP, execReadAlt, execCompT, execCompP,
      execCompP32, execAlt, execLog2, execExp2] <;>
    (repeat' split) <;> exact ⟨_, rfl⟩

theorem decodeStep_next (s : State) : ∃ t, decodeStep s = .next t := by
  unfold decodeStep
  split
  · exact exec_next _ s
  · exact ⟨_, rfl⟩

theorem engineTurn_next (s : State) : ∃ t, engineTurn s = .next t := by
  unfold engineTurn
  split
  · exact decodeStep_next s
  · exact ⟨_, rfl⟩

/-- R214: no event stops the machine. -/
theorem step_next (s : State) : ∃ t, step s = .next t := by
  unfold step
  split
  · exact engineTurn_next s
  · unfold handleEvent
    split <;> first | exact engineTurn_next _ | exact ⟨_, rfl⟩

/-- How the eleven meanings leave the state, for proofs over all commands: a command either completes on
the state its clears and stages made, or waits for the one transaction it issued. -/
theorem exec_shape (i : Instr) (s t : State) (h : exec i s = .next t) :
    (∃ c u, c ≠ .busWriteError ∧ t = complete c 0 u) ∨ (∃ r p u, t = issue r p u) := by
  cases i <;>
    simp only [exec, execNop, execInit, execReadT, execReadP, execReadAlt, execCompT, execCompP,
      execCompP32, execAlt, execLog2, execExp2] at h <;>
    (repeat' split at h) <;> cases h <;>
    first
      | exact .inl ⟨_, _, by decide, rfl⟩
      | exact .inr ⟨_, _, _, rfl⟩

/-- The pieces of state that no command and no answer touches: the host's own (R22, R27, R39, R40, R48),
CMDL, and the model's environment. -/
structure HostKept (s t : State) : Prop where
  ie : t.ie = s.ie
  ign : t.ign = s.ign
  devAddr : t.devAddr = s.devAddr
  slp : t.slp = s.slp
  arg : t.arg = s.arg
  cmdl : t.cmdl = s.cmdl
  inputs : t.inputs = s.inputs
  portData : t.portData = s.portData

theorem HostKept.trans {s t u : State} (h : HostKept s t) (h' : HostKept t u) : HostKept s u := by
  constructor
  · exact h'.ie.trans h.ie
  · exact h'.ign.trans h.ign
  · exact h'.devAddr.trans h.devAddr
  · exact h'.slp.trans h.slp
  · exact h'.arg.trans h.arg
  · exact h'.cmdl.trans h.cmdl
  · exact h'.inputs.trans h.inputs
  · exact h'.portData.trans h.portData

theorem HostKept.refl (s : State) : HostKept s s := by
  constructor <;> rfl

theorem exec_hostKept {i : Instr} {s t : State} (h : exec i s = .next t) : HostKept s t := by
  cases i <;>
    simp only [exec, execNop, execInit, execReadT, execReadP, execReadAlt, execCompT, execCompP,
      execCompP32, execAlt, execLog2, execExp2] at h <;>
    (repeat' split at h) <;> cases h <;> constructor <;> rfl

theorem decodeStep_hostKept {s t : State} (h : decodeStep s = .next t) : HostKept s t := by
  unfold decodeStep at h
  split at h
  · exact exec_hostKept h
  · cases h; constructor <;> rfl

theorem engineTurn_hostKept {s t : State} (h : engineTurn s = .next t) : HostKept s t := by
  unfold engineTurn at h
  split at h
  · exact decodeStep_hostKept h
  · cases h; exact .refl s

/-- Which step consumes an answer (R110). -/
theorem consumeAnswer_cases (a : BusAnswer) (s : State) :
    (consumeAnswer a s = s ∧ (s.busreq = none ∨ s.seqStep = .idle ∨ s.seqStep = .decode)) ∨
    (s.seqStep = .initOpen ∧ consumeAnswer a s = afterOpen a s) ∨
    (∃ i, s.seqStep = .initRead i ∧ consumeAnswer a s = afterCalRead i a s) ∨
    (s.seqStep = .initWrite ∧ consumeAnswer a s = afterModeWrite a s) ∨
    (s.seqStep = .readT ∧ consumeAnswer a s = afterReadT a s) ∨
    (s.seqStep = .readP ∧ consumeAnswer a s = afterReadP a s) ∨
    (s.seqStep = .readAlt ∧ consumeAnswer a s = afterReadAlt a s) := by
  cases hr : s.busreq with
  | none => exact .inl ⟨consumeAnswer_discarded a hr, .inl rfl⟩
  | some r => cases hs : s.seqStep <;> simp [consumeAnswer, hr, hs]

theorem consumeAnswer_hostKept (a : BusAnswer) (s : State) : HostKept s (consumeAnswer a s) := by
  rcases consumeAnswer_cases a s with ⟨h, -⟩ | ⟨-, h⟩ | ⟨i, -, h⟩ | ⟨-, h⟩ | ⟨-, h⟩ | ⟨-, h⟩ | ⟨-, h⟩ <;> rw [h]
  · exact .refl s
  · cases a <;> constructor <;> rfl
  · cases a
    · constructor <;> rfl
    · simp only [afterCalRead]
      split <;> constructor <;> rfl
  all_goals cases a <;> constructor <;> rfl

/-- A step by the event that is next, with the engine's turn where none is scheduled. -/
theorem step_cases {s t : State} (h : step s = .next t) :
    (s.inputs = [] ∧ engineTurn s = .next t) ∨
    ∃ rest, (s.inputs = .engine :: rest ∧ engineTurn (setInputs rest s) = .next t) ∨
      (∃ a, s.inputs = .answer a :: rest ∧ t = consumeAnswer a (setInputs rest s)) ∨
      (∃ a, s.inputs = .lateAnswer a :: rest ∧ t = setInputs rest s) ∨
      (∃ off, s.inputs = .hostRead off :: rest ∧ t = hostRead off (setInputs rest s)) ∨
      (∃ off v, s.inputs = .hostWrite off v :: rest ∧ t = hostWrite off v (setInputs rest s)) ∨
      (s.inputs = .reset :: rest ∧ t = applyReset (setInputs rest s)) := by
  unfold step at h
  split at h
  · exact .inl ⟨‹_›, h⟩
  · rename_i e rest hi
    refine .inr ⟨rest, ?_⟩
    cases e <;> simp only [handleEvent, Host.Outcome.next.injEq] at h <;> simp [hi, h]

end Sys2Proof.Machine
end

