-- ==== Sys2Proof/Laws/Init.lean ====
section
/-! SUPPORT. What each step of an INIT does, one lemma per kind of step (R106), for proofs that follow an
INIT through its fourteen transactions. -/

namespace Sys2Proof.Machine

/-- The CMD write of an INIT and its DECODE step, from an idle state. -/
theorem run_init_start {s : State} {rest : List Event} (k : Nat) (hb : s.busy = false)
    (h : s.inputs = .hostWrite 0x04 0x00000001 :: .engine :: rest) :
    Host.Core.run core (k + 2) s = Host.Core.run core k
      { s with
        inputs := rest
        cmdl := 1
        busy := true
        done := false
        calValid := false
        tvalid := false
        pvalid := false
        p32valid := false
        avalid := false
        psent := false
        busOpen := false
        seqState := .uninit
        cal := Config.freeCal s.draws
        draws := s.draws + 1
        busreq := some (.openDev s.devAddr)
        seqStep := .initOpen
        busLog := .openDev s.devAddr :: s.busLog } := by
  rw [run_succ _ (by
    rw [step_cons h]
    simp only [handleEvent, hostWrite_of_regAt (off := 4) (r := .cmd) rfl, regWrite, setInputs_busy, hb,
      Bool.false_eq_true, if_false]
    rfl)]
  rw [run_succ _ (by
    rw [step_cons rfl]
    simp only [handleEvent]
    rw [engineTurn_decode rfl,
      decodeStep_ok (i := .init) (by simp only [setInputs_cmdl, accept_cmdl]; rfl)]
    rfl)]
  rfl

theorem step_initOpen_ok {s : State} {r : BusReq} {rest : List Event} {b0 b1 b2 : Byte}
    (h : s.inputs = .answer (.ok b0 b1 b2) :: rest) (hr : s.busreq = some r)
    (hs : s.seqStep = .initOpen) :
    step s = .next
      { s with
        inputs := rest
        busOpen := true
        seqState := .busOpen
        busreq := some (.rd s.devAddr (calReg 0) .two)
        seqStep := .initRead 0
        busLog := .rd s.devAddr (calReg 0) .two :: s.busLog } := by
  rw [step_answer h]
  simp only [consumeAnswer, setInputs_busreq, hr, setInputs_seqStep, hs, afterOpen]
  rfl

theorem step_initRead_ok {s : State} {r : BusReq} {rest : List Event} {b0 b1 b2 : Byte} (i : Fin 12)
    (h : s.inputs = .answer (.ok b0 b1 b2) :: rest) (hr : s.busreq = some r)
    (hs : s.seqStep = .initRead i) (hi : i.val + 1 < 12) :
    step s = .next
      { s with
        inputs := rest
        shadow := calSet s.shadow i (b1 ++ b0)
        busreq := some (.rd s.devAddr (calReg ⟨i + 1, hi⟩) .two)
        seqStep := .initRead ⟨i + 1, hi⟩
        busLog := .rd s.devAddr (calReg ⟨i + 1, hi⟩) .two :: s.busLog } := by
  rw [step_answer h]
  simp only [consumeAnswer, setInputs_busreq, hr, setInputs_seqStep, hs, afterCalRead, dif_pos hi]
  rfl

theorem step_initRead_last {s : State} {r : BusReq} {rest : List Event} {b0 b1 b2 : Byte}
    (h : s.inputs = .answer (.ok b0 b1 b2) :: rest) (hr : s.busreq = some r)
    (hs : s.seqStep = .initRead 11) :
    step s = .next
      { s with
        inputs := rest
        shadow := { s.shadow with p9 := b1 ++ b0 }
        cal := { s.shadow with p9 := b1 ++ b0 }
        calValid := true
        seqState := .calibrated
        busreq := some (.wr s.devAddr 0xF4 0x27)
        seqStep := .initWrite
        busLog := .wr s.devAddr 0xF4 0x27 :: s.busLog } := by
  rw [step_answer h]
  simp only [consumeAnswer, setInputs_busreq, hr, setInputs_seqStep, hs, afterCalRead]
  rfl

theorem step_initWrite_ok {s : State} {r : BusReq} {rest : List Event} {b0 b1 b2 : Byte}
    (h : s.inputs = .answer (.ok b0 b1 b2) :: rest) (hr : s.busreq = some r)
    (hs : s.seqStep = .initWrite) :
    step s = .next (completed { s with inputs := rest, seqState := .ready } 0 0) := by
  rw [step_answer h]
  simp only [consumeAnswer, setInputs_busreq, hr, setInputs_seqStep, hs, afterModeWrite,
    complete_eq_completed]
  rfl

theorem step_initRead_fail {s : State} {r : BusReq} {rest : List Event} (i : Fin 12)
    (h : s.inputs = .answer .fail :: rest) (hr : s.busreq = some r) (hs : s.seqStep = .initRead i) :
    step s = .next (completed
      { s with
        inputs := rest
        seqState := .failed
        shadow := Config.freeShadow s.draws
        draws := s.draws + 1 } (i.val % 16) 4) := by
  rw [step_answer h]
  simp only [consumeAnswer, setInputs_busreq, hr, setInputs_seqStep, hs, afterCalRead, initFail,
    complete_eq_completed, BitVec.toNat_ofNat]
  rfl

end Sys2Proof.Machine
end

