-- ==== Sys2Proof/Laws/PerInstr.lean ====
section
/-! SUPPORT. The family `Codeword`: each command's word is legal by the check of 30_encoding.md R85 that
is written without the decoder, and belongs to the group R83 gives its unit. -/

namespace Sys2Proof.Laws.Codeword

/-- R83, R85: `i` is well formed, its word is legal, and its opcode lies in its unit's group: 0x00–0x0F
sequencer, 0x10–0x1F compensation, 0x20–0x2F altitude. -/
def Statement (i : Instr) : Prop :=
  i.wf = true ∧ legalWord (encode i) = true ∧
    (encode i).toNat / 16 =
      match i with
      | .nop | .init | .readT | .readP | .readAlt => 0
      | .compT | .compP | .compP32 => 1
      | .alt | .log2 | .exp2 => 2

theorem nop : Statement .nop := ⟨rfl, rfl, rfl⟩
theorem init : Statement .init := ⟨rfl, rfl, rfl⟩
theorem readT : Statement .readT := ⟨rfl, rfl, rfl⟩
theorem readP : Statement .readP := ⟨rfl, rfl, rfl⟩
theorem readAlt : Statement .readAlt := ⟨rfl, rfl, rfl⟩
theorem compT : Statement .compT := ⟨rfl, rfl, rfl⟩
theorem compP : Statement .compP := ⟨rfl, rfl, rfl⟩
theorem compP32 : Statement .compP32 := ⟨rfl, rfl, rfl⟩
theorem alt : Statement .alt := ⟨rfl, rfl, rfl⟩
theorem log2 : Statement .log2 := ⟨rfl, rfl, rfl⟩
theorem exp2 : Statement .exp2 := ⟨rfl, rfl, rfl⟩

end Sys2Proof.Laws.Codeword
end

