-- ==== Sys2Proof/Machine/HostScript.lean ====
section
/-! DEFINITION. The host script of 30_encoding.md R87, its pseudo-statements (R88) and the source's API
calls (R84).  Control flow here is the host's, not BPCE's (R114). -/

namespace Sys2Proof.Machine

/-- R87: one statement.  A label is the position of its statement in the script (log entry 15). -/
inductive HostStmt where
  | write (off : Byte) (v : Word)
  | read (off : Byte)
  | bnz (off : Byte) (mask : Word) (target : Nat)
  | bz (off : Byte) (mask : Word) (target : Nat)
  deriving DecidableEq, Repr

/-- The one host access a statement makes (R87). -/
def HostStmt.event : HostStmt → Event
  | .write off v => .hostWrite off v
  | .read off | .bnz off _ _ | .bz off _ _ => .hostRead off

/-- Where the script goes on, given the position of the statement and the value it read (R87). -/
def HostStmt.nextPos (pos : Nat) (value : Word) : HostStmt → Nat
  | .write _ _ | .read _ => pos + 1
  | .bnz _ mask target => if value &&& mask ≠ 0 then target else pos + 1
  | .bz _ mask target => if value &&& mask = 0 then target else pos + 1

/-- One statement of a script run against the machine: its access, then the host's decision.  None when
the position is past the script's end. -/
def scriptStep (script : List HostStmt) (pos : Nat) (s : State) : Option (Nat × State) :=
  match script[pos]? with
  | none => none
  | some st =>
    match st with
    | .write off v => some (pos + 1, hostWrite off v s)
    | .read off | .bnz off _ _ | .bz off _ _ =>
      let s := hostRead off s
      some (st.nextPos pos s.portData, s)

/-- `cmd M` (R88). -/
def stmtCmd (i : Instr) : HostStmt := .write (regOffset .cmd) (encode i)

/-- `wait`, standing at position `pos` (R88): poll until BUSY = 0. -/
def stmtWait (pos : Nat) : HostStmt := .bnz (regOffset .status) 0x1 pos

/-- `run M`, its first statement at position `pos` (R88). -/
def stmtsRun (pos : Nat) (i : Instr) : List HostStmt := [stmtCmd i, stmtWait (pos + 1)]

/-- `clear` (R88): clear DONE and IGN. -/
def stmtClear : HostStmt := .write (regOffset .status) 0x00000006

/-- `setslp pa` (R88).  DESIGN CHOICE (log entry 23): for a `pa` whose product with 256 does not fit 32
bits the spec says nothing, and the statement writes the product modulo 2^32. -/
def stmtSetslp (pa : Nat) : HostStmt := .write (regOffset .slp) (BitVec.ofNat 32 (pa * 256))

/-- R84: the source's API calls.  `readAltitude` takes its reference as `referencePressure·256`, the Q24.8
value written to SLP, so fractions of a pascal are admitted (N11).  DESIGN CHOICE (log entry 24): a
reference that is no multiple of 1/256 Pa, or whose product does not fit 32 bits, is no call here. -/
inductive ApiCall where
  | initialize_
  | readTemperature
  | readPressure
  | readAltitude (reference : Word)
  deriving DecidableEq, Repr

/-- R84: the statements an API call stands for, the first one at position `pos`.  DESIGN CHOICE (log
entry 25): R84 names the command and no wait; here each call is a `run` (R88), which polls STATUS.BUSY. -/
def ApiCall.stmts (pos : Nat) : ApiCall → List HostStmt
  | .initialize_ => stmtsRun pos .init
  | .readTemperature => stmtsRun pos .readT
  | .readPressure => stmtsRun pos .readP
  | .readAltitude reference => .write (regOffset .slp) reference :: stmtsRun (pos + 1) .readAlt

/-- R84: the result of `initialize`: `true` is ERR.CODE = NONE. -/
def initializeResult (s : State) : Bool := s.err.extractLsb' 0 8 = codeByte .none

end Sys2Proof.Machine
end

