-- ==== Sys2Proof/Tests/Slice0.lean ====
section
/-! SUPPORT. Tests of one step each, with expected values from 95_test_vectors.md and the opcode table of
R83, and the witnesses: for each statement with hypotheses, a state and operands that meet them all. -/

namespace Sys2Proof.Tests

open Sys2Proof Sys2Proof.Machine

/-- Whether an outcome is a next state with a property. -/
def after (o : Host.Outcome State Fault Refusal) (p : State → Bool) : Bool :=
  match o with
  | .next t => p t
  | .fault _ | .refused _ => false

/-- After reset and `write DEV_ADDR, 0x77`, with the unspecified state filled in. -/
def fresh : State :=
  { State.reset with devAddr := 0x77, cmdl := 0, cal := section8Cal, shadow := section8Cal }

/-- The test vectors' "Ready": STATUS 0x00000332, ERR 0x00010000. -/
def ready : State :=
  { fresh with seqState := .ready, busOpen := true, calValid := true, done := true, err := 0x00010000 }

/-- The test vectors' "Ready+T": STATUS 0x00000732, ERR 0x00020000. -/
def readyT : State :=
  { ready with rawT := 519888, tFine := 128422, temp := 2508, tvalid := true, err := 0x00020000 }

/-- Ready+T after READ_P. -/
def readyTP : State := { readyT with rawP := 415148, press := 25767233, pvalid := true }

/-- A state before the DECODE step of the word `w`. -/
def decoding (w : Word) (s : State) : State :=
  { s with cmdl := w, busy := true, done := false, seqStep := .decode }

/-- A state of a running command of word `w`, waiting at `p` for the answer to its transaction. -/
def waiting (w : Word) (p : SeqStep) (s : State) : State :=
  { s with
    cmdl := w, busy := true, done := false, seqStep := p, busreq := awaitedReq p s.devAddr
    tvalid := s.tvalid && p ≠ .readT, pvalid := false, avalid := false, psent := false }

/-- INIT running on `fresh`, in the sequencer state `q`. -/
def initRunning (p : SeqStep) (q : SeqState) (cv : Bool) : State :=
  { waiting 1 p fresh with seqState := q, busOpen := decide (p ≠ .initOpen), calValid := cv }

/-! ## Well-formedness: an ill-formed word for each check -/

/-- D6 of the vectors: bits 31:8 ≠ 0. -/
theorem test_wf_refuses_reserved_bits :
    legalWord 0x00000101 = false ∧ decode 0x00000101 = .error .reservedBits := by decide

/-- D1, D4 of the vectors: an unassigned opcode. -/
theorem test_wf_refuses_unassigned_opcode :
    legalWord 0x00000005 = false ∧ decode 0x00000005 = .error .unassignedOpcode ∧
      legalWord 0x000000FF = false ∧ decode 0x000000FF = .error .unassignedOpcode := by decide

/-! ## Decoding: each command's word, bit by bit from the opcode column of R83 -/

theorem test_decode_nop : decode 0b00000000000000000000000000000000 = .ok .nop := by decide
theorem test_decode_init : decode 0b00000000000000000000000000000001 = .ok .init := by decide
theorem test_decode_readT : decode 0b00000000000000000000000000000010 = .ok .readT := by decide
theorem test_decode_readP : decode 0b00000000000000000000000000000011 = .ok .readP := by decide
theorem test_decode_readAlt : decode 0b00000000000000000000000000000100 = .ok .readAlt := by decide
theorem test_decode_compT : decode 0b00000000000000000000000000010000 = .ok .compT := by decide
theorem test_decode_compP : decode 0b00000000000000000000000000010001 = .ok .compP := by decide
theorem test_decode_compP32 : decode 0b00000000000000000000000000010010 = .ok .compP32 := by decide
theorem test_decode_alt : decode 0b00000000000000000000000000100000 = .ok .alt := by decide
theorem test_decode_log2 : decode 0b00000000000000000000000000100001 = .ok .log2 := by decide
theorem test_decode_exp2 : decode 0b00000000000000000000000000100010 = .ok .exp2 := by decide

/-- R63: the bytes of INIT's word, lowest address first. -/
theorem test_decode_bytes : decodeBytes [0x01, 0x00, 0x00, 0x00, 0x7F] = .ok (.init, [0x7F]) := by decide

/-- The host's form of the decoder, on COMP_P32's word. -/
theorem test_decode_table_word : decodeTableWord 32 0x12 = some .compP32 := by decide

/-! ## One step of each command -/

/-- S2. -/
theorem test_nop_completes :
    after (step (decoding 0x00 fresh)) (fun t => t.err = 0 && portValue 0x08 t = 0x00000002) := by decide

/-- S3, first transaction; the intermediate STATUS of 2.4 while OPEN is unanswered. -/
theorem test_init_opens :
    after (step (decoding 0x01 fresh)) (fun t =>
      t.busreq = some (.openDev 0x77) && portValue 0x08 t = 0x00000001) := by decide

/-- S5: the mode write fails. -/
theorem test_init_mode_write_fails :
    after (step { initRunning .initWrite .calibrated true with inputs := [.answer .fail] }) (fun t =>
      t.err = 0x00010005 && portValue 0x08 t = 0x00000342 && portValue 0x48 t = 0xFFFFFC18) := by decide

/-- T12, T13: the answer, with bits 3:0 of its third byte set. -/
theorem test_readT_answer :
    after (step { waiting 2 .readT ready with inputs := [.answer (.ok 0x7E 0xED 0x0F)] }) (fun t =>
      t.rawT = 0x7EED0 && t.tFine = 0x0001F5A6 && t.temp = 0x000009CC && t.err = 0x00020000 &&
        portValue 0x08 t = 0x00000732) := by decide

/-- E6: refused before INIT, with no transaction. -/
theorem test_readT_not_initialized :
    after (step (decoding 0x02 fresh)) (fun t =>
      t.err = 0x00020006 && t.busLog = [] && portValue 0x08 t = 0x00000002) := by decide

/-- P11. -/
theorem test_readP_answer :
    after (step { waiting 3 .readP readyT with inputs := [.answer (.ok 0x65 0x5A 0xC0)] }) (fun t =>
      t.rawP = 0x655AC && t.press = 0x01892D41 && t.err = 0x00030000 &&
        portValue 0x08 t = 0x00000F32) := by decide

/-- P15: the transaction fails. -/
theorem test_readP_bus_error :
    after (step { waiting 3 .readP readyT with inputs := [.answer .fail] }) (fun t =>
      t.err = 0x00030002 && portValue 0x08 t = 0x00000732) := by decide

/-- A19. -/
theorem test_readAlt_answer :
    after (step { waiting 4 .readAlt readyT with inputs := [.answer (.ok 0x65 0x5A 0xC0)] }) (fun t =>
      t.press = 0x01892D41 && t.alt = 0x00003814 && t.err = 0x00040000 &&
        portValue 0x08 t = 0x00002F32) := by decide

/-- G2: NO_TFINE beats DOMAIN_ERROR. -/
theorem test_readAlt_check_order :
    after (step (decoding 0x04 { ready with slp := 0 })) (fun t => t.err = 0x00040011) := by decide

/-- E7: the floor of a negative shift. -/
theorem test_compT_floors :
    after (step (decoding 0x10 { ready with rawT := 400000 })) (fun t =>
      t.tFine = 0xFFFF0320 && t.temp = 0xFFFFFB10 && t.err = 0x00100000) := by decide

/-- T9: the most negative corner. -/
theorem test_compT_corner :
    compT 0xFFFFF 0 (BitVec.ofInt 16 (-32768)) (BitVec.ofInt 16 (-32768)) = -4194224 ∧
      temp100 (-4194224) = -81918 := by decide

/-- P9. -/
theorem test_compP :
    after (step (decoding 0x11 { readyT with rawP := 415148 })) (fun t =>
      t.press = 0x01892D41 && t.psent = false && portValue 0x08 t = 0x00000F32) := by decide

/-- P3: the 64-bit result wraps; P5: a negative T_FINE. -/
theorem test_compP_wraps :
    compP64 128422 1048575 section8Cal = (0xFFE61920, false) ∧
      compP64 (BitVec.ofInt 32 (-500000)) 415148 section8Cal = (0x01435159, false) := by decide

/-- P18, the other branch of the division. -/
theorem test_compP32 :
    after (step (decoding 0x12 { readyT with rawP := 0 })) (fun t =>
      t.press32 = 0x0002A494 && t.err = 0x00120000 && portValue 0x08 t = 0x00001732) := by decide

/-- P8, P17: the sentinel. -/
theorem test_compP32_sentinel :
    after (step (decoding 0x12 { readyTP with cal := { section8Cal with p1 := 0 } })) (fun t =>
      t.press32 = 0 && t.psent && t.p32valid) := by decide

/-- A18. -/
theorem test_alt :
    after (step (decoding 0x20 readyTP)) (fun t =>
      t.alt = 0x00003814 && t.err = 0x00200000 && portValue 0x08 t = 0x00002F32) := by decide

/-- A10, A7: pressures above the reference. -/
theorem test_alt_negative :
    altfx 0xFFFFFFFF 1 = -761405690 ∧ altfx 30720000 25939200 = -371251 := by decide

/-- A12. -/
theorem test_log2 :
    after (step (decoding 0x21 { fresh with arg := 0x018BCD00 })) (fun t =>
      t.res = 0x18A0EDF0 && t.err = 0x00210000 && portValue 0x08 t = 0x00004002) := by decide

/-- A14: outside the domain, with RES kept. -/
theorem test_log2_domain :
    after (step (decoding 0x21 { fresh with res := 7, rvalid := true })) (fun t =>
      t.res = 7 && t.err = 0x00210013 && portValue 0x08 t = 0x00000002) := by decide

/-- A17. -/
theorem test_exp2 :
    after (step (decoding 0x22 { fresh with arg := 0x07FFFFFF })) (fun t =>
      t.res = 0xFFFFFF2E && t.err = 0x00220000) := by decide

/-- A15. -/
theorem test_exp2_domain :
    after (step (decoding 0x22 { fresh with arg := 0x08000000 })) (fun t =>
      t.err = 0x00220013 && !t.rvalid) := by decide

/-- D7: an illegal word. -/
theorem test_illegal_word :
    after (step (decoding 0xFFFFFFFF fresh)) (fun t =>
      t.err = 0x00FF0010 && portValue 0x08 t = 0x00000002) := by decide

/-- S2 by way of the host's placement of a word. -/
theorem test_fetch_word :
    after (step (State.reset.withFetchWord 32 0x00)) (fun t =>
      t.err = 0 && t.done && !t.busy) := by decide

/-! ## The host port and the host script -/

/-- S1, G10. -/
theorem test_reset_reads :
    portValue 0x08 State.reset = 0 ∧ portValue 0x0C State.reset = 0 ∧ portValue 0x14 State.reset = 0x018BCD00 ∧
      portValue 0x3C State.reset = 0 ∧ portValue 0x70 State.reset = 0 ∧ portValue 0x04 State.reset = 0 := by
  decide

/-- E1: T3 is sign-extended and P1 is not. -/
theorem test_cal_reads : portValue 0x48 ready = 0xFFFFFC18 ∧ portValue 0x4C ready = 0x00008E7D := by decide

/-- G4, G5: the interrupt output. -/
theorem test_irq :
    portValue 0x08 { fresh with ie := true, done := true } = 0x00010002 ∧
      portValue 0x08 (hostWrite 0x08 0x00000002 { fresh with ie := true, done := true }) = 0 := by decide

/-- G7: the lock of DEV_ADDR; G9: its width. -/
theorem test_devAddr_write :
    portValue 0x08 (hostWrite 0x10 0x76 ready) = 0x00000336 ∧ (hostWrite 0x10 0x76 ready).devAddr = 0x77 ∧
      portValue 0x10 (hostWrite 0x10 0xFF fresh) = 0x7F := by decide

/-- R63: the bytes of SLP at reset. -/
theorem test_port_bytes :
    portByte 0x14 fresh = 0x00 ∧ portByte 0x15 fresh = 0xCD ∧ portByte 0x16 fresh = 0x8B ∧
      portByte 0x17 fresh = 0x01 := by decide

/-- Program 3, lines 6 and 12, and Program 4, line 5. -/
theorem test_script_statements :
    stmtSetslp 101325 = .write 0x14 0x018BCD00 ∧ stmtClear = .write 0x08 0x00000006 ∧
      (scriptStep [.read 0x0F] 0 { ready with err := 0x00210013 }).map (fun r => r.2.portData) =
        some 0x00210013 := by decide

/-- R84: `readAltitude` with 101325 Pa, and with 101325.5 Pa (a fraction, which N11 does not exclude). -/
theorem test_api_readAltitude :
    (ApiCall.readAltitude 0x018BCD00).stmts 0 =
        [.write 0x14 0x018BCD00, .write 0x04 0x00000004, .bnz 0x08 0x1 2] ∧
      ((ApiCall.readAltitude 0x018BCD80).stmts 0).head? = some (.write 0x14 0x018BCD80) := by decide

/-- Program 1, line 2: `wait` loops while BUSY = 1 and falls through when it is 0. -/
theorem test_script_wait :
    (scriptStep (stmtsRun 0 .init) 1 (decoding 1 fresh)).map (fun r => r.1) = some 1 ∧
      (scriptStep (stmtsRun 0 .init) 1 ready).map (fun r => r.1) = some 2 := by decide

/-! ## Witnesses: states and operands that meet the hypotheses of each statement, per clause -/

theorem wit_ResetAbandonsTheRunningCommand :
    { waiting 2 .readT ready with inputs := [Event.reset] }.inputs = .reset :: [] := by decide

theorem wit_DecodeAndEncodeAgree :
    256 ≤ (0x00000100 : Word).toNat ∧ (0xFF : Word).toNat < 256 ∧ legalWord 0xFF = false ∧
      (0x22 : Word) = encode .exp2 := by decide

theorem wit_CommandWriteAcceptedOrIgnored :
    (0x04 : Byte).toNat / 4 = 1 ∧ (0x07 : Byte).toNat / 4 = 1 ∧ ready.busy = false ∧
      (waiting 2 .readT ready).busy = true := by decide

theorem wit_StepRunsTheDecodedCommand :
    (decoding 0x01 fresh).inputs = [] ∧ (decoding 0x01 fresh).seqStep = .decode ∧
      decode (decoding 0x01 fresh).cmdl = .ok .init ∧
      { decoding 0x22 fresh with inputs := [Event.engine] }.inputs.head? = some .engine ∧
      decode (decoding 0x22 fresh).cmdl = .ok .exp2 := by decide

theorem wit_IllegalWordCompletes :
    (decoding 0x05 fresh).inputs = [] ∧ (decoding 0x05 fresh).seqStep = .decode ∧
      legalWord (decoding 0x05 fresh).cmdl = false ∧ legalWord (decoding 0x100 fresh).cmdl = false := by
  decide

theorem wit_NopCompletesWithNone : (decoding 0 fresh).cmdl = 0 := by decide

/-- The oracle's bytes, with both ends of a byte's range among them. -/
theorem wit_InitReachesReady :
    { ready with inputs := .hostWrite 0x04 0x00000001 :: .engine ::
        (initAnswers (fun _ => 0x00) (fun _ => 0xFF) ++ [Event.reset]) }.busy = false ∧
      { ready with inputs := .hostWrite 0x04 0x00000001 :: .engine ::
        (initAnswers (fun _ => 0x00) (fun _ => 0xFF) ++ [Event.reset]) }.inputs =
          .hostWrite 0x04 0x00000001 :: .engine ::
            (initAnswers (fun _ => 0x00) (fun _ => 0xFF) ++ [Event.reset]) := by decide

/-- The first read failing and the last. -/
theorem wit_InitFailsAtAnyCalibrationRead :
    ∀ k : Fin 12, k = 0 ∨ k = 11 → ∃ (s : State) (b : Fin 12 → Byte × Byte) (rest : List Event),
      s.busy = false ∧
        s.inputs = .hostWrite 0x04 0x00000001 :: .engine :: .answer (.ok 0 0 0) ::
          ((List.finRange 12).take k.val).map (fun i => Event.answer (.ok (b i).1 (b i).2 0)) ++
          .answer .fail :: rest :=
  fun _ _ => ⟨{ fresh with inputs := _ }, fun _ => (0x7D, 0x8E), [], rfl, rfl⟩

theorem wit_InitFailsAtOpenOrModeWrite :
    { initRunning .initOpen .uninit false with inputs := [.answer .fail] }.inputs = .answer .fail :: [] ∧
      (initRunning .initOpen .uninit false).busreq.isSome = true ∧
      (initRunning .initOpen .uninit false).seqStep = .initOpen ∧
      { initRunning .initWrite .calibrated true with inputs := [.answer .fail] }.inputs =
        .answer .fail :: [] ∧
      (initRunning .initWrite .calibrated true).busreq.isSome = true ∧
      (initRunning .initWrite .calibrated true).seqStep = .initWrite := by decide

/-- Both ends of the reads that issue another read, the last read, OPEN, the mode write, a failing read. -/
theorem wit_InitStepsFollowTheSequence :
    (∀ p ∈ [SeqStep.initOpen, .initRead 0, .initRead 10, .initRead 11, .initWrite],
      (initRunning p .busOpen false).busreq.isSome = true ∧ (initRunning p .busOpen false).seqStep = p) ∧
      (0 : Fin 12).val + 1 < 12 ∧ (10 : Fin 12).val + 1 < 12 ∧
      { initRunning (.initRead 10) .busOpen false with inputs := [.answer (.ok 0xFF 0 0)] }.inputs =
        .answer (.ok 0xFF 0 0) :: [] ∧
      { initRunning (.initRead 11) .busOpen false with inputs := [.answer .fail] }.inputs =
        .answer .fail :: [] := by decide

theorem wit_ReadTFetchesAndCompensates :
    fresh.seqState ≠ .ready ∧ ready.seqState = .ready ∧
      (waiting 2 .readT ready).busreq.isSome = true ∧ (waiting 2 .readT ready).seqStep = .readT ∧
      { waiting 2 .readT ready with inputs := [.answer .fail] }.inputs = .answer .fail :: [] ∧
      { waiting 2 .readT ready with inputs := [.answer (.ok 0xFF 0xFF 0xFF)] }.inputs =
        .answer (.ok 0xFF 0xFF 0xFF) :: [] := by decide

theorem wit_ReadPFetchesAndCompensates :
    fresh.seqState ≠ .ready ∧ ready.seqState = .ready ∧ ready.tvalid = false ∧
      readyT.seqState = .ready ∧ readyT.tvalid = true ∧
      (waiting 3 .readP readyT).busreq.isSome = true ∧ (waiting 3 .readP readyT).seqStep = .readP ∧
      { waiting 3 .readP readyT with inputs := [.answer .fail] }.inputs = .answer .fail :: [] ∧
      { waiting 3 .readP readyT with inputs := [.answer (.ok 0xFF 0xFF 0xFF)] }.inputs =
        .answer (.ok 0xFF 0xFF 0xFF) :: [] ∧
      divisor64 0 { section8Cal with p1 := 0 } = 0 := by decide

theorem wit_ReadAltFetchesAndConverts :
    fresh.seqState ≠ .ready ∧ ready.seqState = .ready ∧ ready.tvalid = false ∧
      { readyT with slp := 0 }.seqState = .ready ∧ { readyT with slp := 0 }.tvalid = true ∧
      { readyT with slp := 0 }.slp = 0 ∧ readyT.seqState = .ready ∧ readyT.tvalid = true ∧
      readyT.slp ≠ 0 ∧
      (waiting 4 .readAlt readyT).busreq.isSome = true ∧ (waiting 4 .readAlt readyT).seqStep = .readAlt ∧
      (waiting 4 .readAlt readyT).slp ≠ 0 ∧
      { waiting 4 .readAlt readyT with inputs := [.answer .fail] }.inputs = .answer .fail :: [] ∧
      { waiting 4 .readAlt readyT with inputs := [.answer (.ok 0 0 0)] }.inputs =
        .answer (.ok 0 0 0) :: [] := by decide

theorem wit_CompTWritesTheTemperature : fresh.seqState ≠ .ready ∧ ready.seqState = .ready := by decide

theorem wit_CompPWritesThePressure :
    fresh.seqState ≠ .ready ∧ ready.seqState = .ready ∧ ready.tvalid = false ∧
      readyT.seqState = .ready ∧ readyT.tvalid = true ∧ { section8Cal with p1 := 0 }.p1 = 0 := by decide

theorem wit_CompP32WritesThePressure :
    fresh.seqState ≠ .ready ∧ ready.seqState = .ready ∧ ready.tvalid = false ∧
      readyT.seqState = .ready ∧ readyT.tvalid = true ∧ (0x7FFFFFFF : Int) < 2 ^ 31 ∧
      2 ^ 31 ≤ (0x80000000 : Int) ∧ { section8Cal with p1 := 0 }.p1 = 0 := by decide

theorem wit_AltWritesTheAltitude :
    fresh.seqState ≠ .ready ∧ ready.seqState = .ready ∧ ready.pvalid = false ∧
      { readyTP with slp := 0 }.seqState = .ready ∧ { readyTP with slp := 0 }.pvalid = true ∧
      { readyTP with slp := 0 }.slp = 0 ∧ readyTP.seqState = .ready ∧ readyTP.pvalid = true ∧
      readyTP.slp ≠ 0 := by decide

theorem wit_Log2WritesTheLogarithm :
    fresh.arg = 0 ∧ { fresh with arg := 0xFFFFFFFF }.arg ≠ 0 := by decide

theorem wit_Exp2WritesTheExponential :
    8 ≤ { fresh with arg := 0x08000000 }.arg.toInt / 2 ^ 24 ∧
      { fresh with arg := 0x07FFFFFF }.arg.toInt / 2 ^ 24 < 8 ∧
      { fresh with arg := 0x80000000 }.arg.toInt / 2 ^ 24 < 8 ∧ (-24 * 2 ^ 24 - 1 : Int) < -24 * 2 ^ 24 := by
  decide

/-- Each word of the map, at its first and at its last offset. -/
theorem wit_RegistersReadTheirContents :
    ∀ n ∈ [0, 1, 3, 4, 5, 6, 7, 8, 9, 10, 11, 12, 13, 14],
      (BitVec.ofNat 8 (4 * n)).toNat / 4 = n ∧ (BitVec.ofNat 8 (4 * n + 3)).toNat / 4 = n := by decide

theorem wit_HostReadsHaveNoSideEffect :
    { ready with inputs := [Event.hostRead 0xFF] }.inputs = .hostRead 0xFF :: [] := by decide

theorem wit_ReservedOffsetsAndBits :
    (0x3C : Byte).toNat / 4 = 15 ∧ 28 ≤ (0x70 : Byte).toNat / 4 ∧ 28 ≤ (0xFF : Byte).toNat / 4 ∧
      (0xFFFFFFFE : Word).getLsbD 0 = (0 : Word).getLsbD 0 ∧
      (0xFFFFFFF9 : Word).getLsbD 1 = (0 : Word).getLsbD 1 ∧
      (0xFFFFFFF9 : Word).getLsbD 2 = (0 : Word).getLsbD 2 ∧
      (0xFFFFFF80 : Word).toNat % 2 ^ 7 = (0 : Word).toNat % 2 ^ 7 ∧
      (0xFFF00000 : Word).toNat % 2 ^ 20 = (0 : Word).toNat % 2 ^ 20 := by decide

/-- The record of a failed calibration read of field 11, the largest index a record holds. -/
theorem wit_ReservedOffsetsAndBits_record : LegalRecord { ready with err := 0x00010B04 }.err :=
  ⟨1, 11, 4, by decide, by decide, by decide⟩

theorem wit_HostWriteEffects :
    (0x03 : Byte).toNat / 4 = 0 ∧ (0x0B : Byte).toNat / 4 = 2 ∧ (0x13 : Byte).toNat / 4 = 4 ∧
      (0x17 : Byte).toNat / 4 = 5 ∧ (0x1B : Byte).toNat / 4 = 6 ∧ (0x1F : Byte).toNat / 4 = 7 ∧
      (0x37 : Byte).toNat / 4 = 13 ∧ (0x0C : Byte).toNat / 4 ∈ [3, 8, 9, 10, 11, 12, 14] ∧
      (0x3B : Byte).toNat / 4 ∈ [3, 8, 9, 10, 11, 12, 14] ∧
      16 ≤ (0x40 : Byte).toNat / 4 ∧ (0x6F : Byte).toNat / 4 < 28 := by decide

theorem fresh_inv : Inv fresh := by
  constructor <;> try decide
  · exact .inl rfl
  · exact ⟨rfl, rfl⟩
  · exact ⟨0, 0, 0, by decide, by decide, by decide⟩

theorem readyT_inv : Inv readyT := by
  constructor <;> try decide
  · exact .inr (.inl rfl)
  · exact ⟨rfl, rfl⟩
  · exact ⟨2, 0, 0, by decide, by decide, by decide⟩

/-- A READ_ALT waiting for its answer, which fails. -/
theorem readAlt_waiting_inv : Inv { waiting 4 .readAlt readyT with inputs := [.answer .fail] } := by
  constructor <;> try decide
  · rfl
  · exact ⟨rfl, rfl⟩
  · exact ⟨2, 0, 0, by decide, by decide, by decide⟩

/-- INIT waiting for its last calibration word. -/
theorem init_last_read_inv :
    Inv { initRunning (.initRead 11) .busOpen false with inputs := [.answer (.ok 0x70 0x17 0)] } := by
  constructor <;> try decide
  · rfl
  · exact ⟨rfl, rfl⟩
  · exact ⟨0, 0, 0, by decide, by decide, by decide⟩

/-- `Inv s` and a next state, also for SequencerFollowsItsTable and BusTrafficIsTheFixedMap. -/
theorem wit_StepKeepsTheInvariant :
    (∃ s t : State, Inv s ∧ s.seqStep = .readAlt ∧ step s = .next t) ∧
      ∃ s t : State, Inv s ∧ s.busreq = none ∧ step s = .next t :=
  ⟨⟨_, _, readAlt_waiting_inv, rfl, rfl⟩, ⟨fresh, fresh, fresh_inv, rfl, rfl⟩⟩

theorem wit_SequencerFollowsItsTable :
    ∃ s t : State, Inv s ∧ step s = .next t ∧ seqAfter s = .calibrated :=
  ⟨_, _, init_last_read_inv, rfl, rfl⟩

theorem wit_BusTrafficIsTheFixedMap :
    ∃ s t : State, Inv s ∧ step s = .next t ∧ t.busLog ≠ s.busLog :=
  ⟨_, _, init_last_read_inv, rfl, by decide⟩

theorem wit_StepKeepsTemperatureAgreement :
    ∃ s t : State, TempInv s ∧ step s = .next t :=
  ⟨readyT, readyT, ⟨by decide, by decide, by decide⟩, rfl⟩

theorem wit_UnansweredTransactionWaitsForEver :
    ∃ (s : State) (r : BusReq), s.busreq = some r ∧ s.busy = true ∧ s.seqStep ≠ .decode ∧
      (∀ e ∈ s.inputs, noAnswer e = true) ∧ s.inputs ≠ [] :=
  ⟨{ waiting 2 .readT ready with inputs := [.engine, .hostWrite 0x04 0, .hostRead 0x08] }, _, rfl,
    by decide, by decide, by decide, by decide⟩

theorem wit_IgnMarksIgnoredWrites :
    (∃ s t : State, step s = .next t ∧ s.ign = false ∧ t.ign = true) ∧
      ∃ s t : State, step s = .next t ∧ s.ign = true ∧ t.ign = false :=
  ⟨⟨{ ready with inputs := [.hostWrite 0x10 0x76] }, _, rfl, by decide, by decide⟩,
    ⟨{ ready with ign := true, inputs := [.hostWrite 0x08 4] }, _, rfl, by decide, by decide⟩⟩

theorem wit_OperandsBelongToTheHost :
    (∃ s t : State, step s = .next t ∧ s.inputs.head? ≠ some .reset ∧ t.ie ≠ s.ie) ∧
      (∃ s t : State, step s = .next t ∧ s.inputs.head? ≠ some .reset ∧ t.devAddr ≠ s.devAddr) ∧
      (∃ s t : State, step s = .next t ∧ s.inputs.head? ≠ some .reset ∧ t.slp ≠ s.slp) ∧
      ∃ s t : State, step s = .next t ∧ s.inputs.head? ≠ some .reset ∧ t.arg ≠ s.arg :=
  ⟨⟨{ fresh with inputs := [.hostWrite 0x00 1] }, _, rfl, by decide, by decide⟩,
    ⟨{ fresh with inputs := [.hostWrite 0x10 0x76] }, _, rfl, by decide, by decide⟩,
    ⟨{ fresh with inputs := [.hostWrite 0x14 1] }, _, rfl, by decide, by decide⟩,
    ⟨{ fresh with inputs := [.hostWrite 0x34 1] }, _, rfl, by decide, by decide⟩⟩

theorem wit_CalibrationTableIsNeverPartial :
    (∃ s t : State, Inv s ∧ step s = .next t ∧ s.calValid = true ∧ t.calValid = true) ∧
      ∃ s t : State, Inv s ∧ step s = .next t ∧ s.calValid = false ∧ t.calValid = true :=
  ⟨⟨readyT, readyT, readyT_inv, rfl, by decide, by decide⟩,
    ⟨_, _, init_last_read_inv, rfl, by decide, by decide⟩⟩

theorem wit_SampleLowNibbleIsDropped : (0xC0 : Byte).toNat / 16 = (0xCF : Byte).toNat / 16 := by decide

/-- Both branches of the statement's match, with the first and the last check. -/
theorem wit_ChecksAreMadeInOrder :
    firstFailure .alt { fresh with slp := 0 } = some 0x06 ∧ firstFailure .readAlt { readyT with slp := 0 } = some 0x13 ∧
      firstFailure .readAlt readyT = none := by decide

theorem wit_FailingCommandsLeaveOutputsInvalid :
    firstFailure .exp2 { fresh with arg := 0x7FFFFFFF } = some 0x13 ∧
      ∃ (s : State) (rest : List Event), Inv s ∧ s.inputs = .answer .fail :: rest ∧ s.seqStep = .readAlt :=
  ⟨by decide, _, _, readAlt_waiting_inv, rfl, rfl⟩

theorem wit_FailingCommandsLeaveOutputsInvalid_reads :
    (∃ (s : State), Inv s ∧ s.inputs = [.answer .fail] ∧ s.seqStep = .readT) ∧
      (∃ (s : State), Inv s ∧ s.inputs = [.answer .fail] ∧ s.seqStep = .readP) ∧
      (∃ (s : State), Inv s ∧ s.inputs = [.answer .fail] ∧ s.seqStep = .initOpen) ∧
      ∃ (s : State), Inv s ∧ s.inputs = [.answer .fail] ∧ s.seqStep = .initRead 0 := by
  refine ⟨⟨{ waiting 2 .readT readyT with inputs := [.answer .fail] }, ?_, rfl, rfl⟩,
    ⟨{ waiting 3 .readP readyT with inputs := [.answer .fail] }, ?_, rfl, rfl⟩,
    ⟨{ initRunning .initOpen .uninit false with inputs := [.answer .fail] }, ?_, rfl, rfl⟩,
    ⟨{ initRunning (.initRead 0) .busOpen false with inputs := [.answer .fail] }, ?_, rfl, rfl⟩⟩
  all_goals constructor
  all_goals
    first
      | decide
      | rfl
      | exact ⟨rfl, rfl⟩
      | exact ⟨0, 0, 0, by decide, by decide, by decide⟩
      | exact ⟨2, 0, 0, by decide, by decide, by decide⟩

/-- Every flag of `s` inverted, and another sequencer state. -/
def otherFlags (s : State) (q : SeqState) : Flags where
  ie := !s.ie
  busy := !s.busy
  done := !s.done
  ign := !s.ign
  seqState := q
  busOpen := !s.busOpen
  calValid := !s.calValid
  tvalid := !s.tvalid
  pvalid := !s.pvalid
  p32valid := !s.p32valid
  avalid := !s.avalid
  rvalid := !s.rvalid
  psent := !s.psent

/-- INIT with every flag different, and COMP_T with every flag but SEQ_STATE. -/
theorem wit_CommandsDoNotReadHostFlags :
    (checkedAgree .init (otherFlags ready .failed) (flagsOf ready) ∧ ∃ t, exec .init ready = .next t) ∧
      (checkedAgree .compT (otherFlags ready .ready) (flagsOf ready) ∧ ∃ t, exec .compT ready = .next t) :=
  ⟨⟨⟨by decide, by decide, by decide⟩, _, rfl⟩, ⟨⟨by decide, by decide, by decide⟩, _, rfl⟩⟩

/-- READ_P and ALT with the flags they check kept. -/
theorem wit_CommandsDoNotReadHostFlags_checked :
    checkedAgree .readP { otherFlags readyT .ready with tvalid := true } (flagsOf readyT) ∧
      checkedAgree .alt { otherFlags readyTP .ready with pvalid := true } (flagsOf readyTP) :=
  ⟨⟨by decide, by decide, by decide⟩, ⟨by decide, by decide, by decide⟩⟩

theorem wit_Temp100Rounds :
    (-4194224 : Int) ≤ -4194224 ∧ (-4194224 : Int) ≤ 4194144 ∧ (4194144 : Int) ≤ 4194144 := by decide

/-- The divisor is 0 with P1 = 0. -/
theorem wit_SentinelExactlyOnZeroDivisor :
    { section8Cal with p1 := 0 }.p1 = 0 ∧ (compP64 128422 415148 { section8Cal with p1 := 0 }).2 = true ∧
      (compP32 128422 415148 { section8Cal with p1 := 0 }).2 = true := by decide

theorem wit_LogarithmRangeAndIntegerPart : (1 : Word) ≠ 0 ∧ (0xFFFFFFFF : Word) ≠ 0 := by decide

theorem wit_LogarithmIsMonotone :
    (1 : Word) ≠ 0 ∧ (1 : Word).toNat ≤ (1 : Word).toNat ∧ (1 : Word).toNat ≤ (0xFFFFFFFF : Word).toNat := by
  decide

theorem wit_LogarithmNeverExceedsTheRealOne : (3 : Word) ≠ 0 := by decide

theorem wit_AltitudeFitsItsRegister : (1 : Word) ≠ 0 ∧ (0xFFFFFFFF : Word) ≠ 0 := by decide

theorem wit_AltitudeHasTheRightSign :
    (0x018BCD00 : Word) ≠ 0 ∧ (0x018BCD00 : Word).toNat ≤ (0x018BCD00 : Word).toNat ∧
      (0 : Word).toNat ≤ (0x018BCD00 : Word).toNat := by decide

/-- Operands that meet the hypotheses and on which the conclusion fails. -/
theorem wit_PressureAboveReferenceIsNegative :
    (0x80000000 : Word) ≠ 0 ∧ (0x80000000 : Word).toNat < (0x80000001 : Word).toNat ∧
      altfx 0x80000001 0x80000000 = 0 := by decide

end Sys2Proof.Tests
end

section
/-! PROOFS. The statements about the host's view of the state: STATUS and its IGN bit, the values after
reset, and the CMD register. -/

namespace Sys2Proof.Machine

/-! ## Which register an access reaches -/

/-- R61: an offset in a register's word reaches that register. -/
theorem regAt_of_index {off : Byte} {r : HostReg} (h : off.toNat / 4 = (regOffset r).toNat / 4) :
    regAt off = some r :=
  (regAt_congr h).trans (regAt_regOffset r)

/-- The read of a register at its own offset. -/
theorem portValue_regOffset (r : HostReg) (s : State) :
    portValue (regOffset r) s = regValue r s :=
  portValue_of_regAt (regAt_regOffset r) s

/-! ## STATUS -/

/-- Settles O22: STATUS as a number, with `seqCode` and `irq` written out. -/
theorem statusReadsItsFields : Obligations.StatusReadsItsFields := by
  intro s
  have hread : portValue 0x08 s = statusWord s := portValue_regOffset .status s
  rw [hread, toNat_statusWord]
  cases s.seqState <;> rfl

/-! ## The values after reset -/

theorem statusWord_resetFrom (inputs : List Event) (busLog : List BusReq) (portData : Word) (d : Nat) :
    statusWord (State.resetFrom inputs busLog portData d) = 0 := by
  apply BitVec.eq_of_toNat_eq
  simp [toNat_statusWord, State.resetFrom, irq, seqCode]

/-- R56, R230: what reset leaves does not depend on what survives it. -/
theorem afterReset_resetFrom (inputs : List Event) (busLog : List BusReq) (portData : Word) (d : Nat) :
    AfterReset (State.resetFrom inputs busLog portData d) where
  ctrl := rfl
  status := (portValue_regOffset .status _).trans (statusWord_resetFrom inputs busLog portData d)
  err := rfl
  devAddr := rfl
  slp := rfl
  rawT := rfl
  rawP := rfl
  tFine := rfl
  temp := rfl
  press := rfl
  press32 := rfl
  alt := rfl
  arg := rfl
  res := rfl
  cal i := portValue_regOffset (.cal i) _
  seqStep := rfl
  busreq := rfl
  busOpen := rfl

/-- Settles O1: the machine right after reset is one that a reset leaves. -/
theorem resetGivesTheStatedValues : Obligations.ResetGivesTheStatedValues :=
  afterReset_resetFrom [] [] 0 0

/-! ## The CMD register -/

theorem regWrite_cmd_idle {s : State} (w : Word) (h : s.busy = false) :
    regWrite .cmd w s = accept w s := by
  simp [regWrite, h]

theorem regWrite_cmd_busy {s : State} (w : Word) (h : s.busy = true) :
    regWrite .cmd w s = ignoreWrite s := by
  simp [regWrite, h]

/-- Settles O5: the offset reaches CMD, whose write BUSY decides. -/
theorem commandWriteAcceptedOrIgnored : Obligations.CommandWriteAcceptedOrIgnored := by
  intro s off w hoff
  have hreg : regAt off = some .cmd := regAt_of_index hoff
  rw [portValue_of_regAt hreg, hostWrite_of_regAt hreg]
  exact ⟨rfl, regWrite_cmd_idle w, regWrite_cmd_busy w⟩

/-! ## Ignored writes -/

/-- R23, R39–R42, R48: the registers BPCE takes no write to now, because of BUSY or of READY. -/
def refusesWrite (r : HostReg) (s : State) : Bool :=
  match r with
  | .cmd | .slp | .rawT | .rawP | .arg => s.busy
  | .devAddr => devAddrLocked s
  | _ => false

/-- R27: an ignored write sets IGN and changes nothing else. -/
theorem regWrite_of_refused {r : HostReg} {s : State} (v : Word) (h : refusesWrite r s = true) :
    regWrite r v s = ignoreWrite s := by
  cases r <;> simp_all [refusesWrite, regWrite]

/-- R26, R27: every other write keeps IGN, but for STATUS's W1C bit. -/
theorem regWrite_ign_of_taken {r : HostReg} {s : State} (v : Word) (h : refusesWrite r s = false) :
    (regWrite r v s).ign = (s.ign && !(decide (r = .status) && v.getLsbD 2)) := by
  cases r <;> simp_all [refusesWrite, regWrite]

/-- R27: the write at `off` is one BPCE ignores, by word numbers: CMD, SLP, RAW_T, RAW_P, ARG and DEV_ADDR
while BUSY, DEV_ADDR while READY. -/
def WriteIgnored (off : Byte) (s : State) : Prop :=
  (s.busy = true ∧ off.toNat / 4 ∈ [1, 4, 5, 6, 7, 13]) ∨ (s.seqState = .ready ∧ off.toNat / 4 = 4)

/-- R62: no write to a reserved offset is an ignored one. -/
theorem not_writeIgnored_of_reserved {off : Byte} (s : State) (h : regAt off = none) :
    ¬ WriteIgnored off s := by
  have hoff := reserved_of_regAt h
  simp only [WriteIgnored, List.mem_cons, List.not_mem_nil, or_false]
  omega

theorem writeIgnored_iff {off : Byte} {r : HostReg} (s : State) (h : regAt off = some r) :
    WriteIgnored off s ↔ refusesWrite r s = true := by
  rw [WriteIgnored, index_of_regAt h]
  cases r with
  | cal i => fin_cases i <;> simp [refusesWrite, regOffset]
  | _ => simp [refusesWrite, regOffset, devAddrLocked]

theorem hostWrite_of_ignored {off : Byte} {s : State} (v : Word) (h : WriteIgnored off s) :
    hostWrite off v s = ignoreWrite s := by
  cases hr : regAt off with
  | none => exact absurd h (not_writeIgnored_of_reserved s hr)
  | some r => rw [hostWrite_of_regAt hr, regWrite_of_refused v ((writeIgnored_iff s hr).mp h)]

/-- R213: the write at `off` of `v` acknowledges IGN. -/
def AcksIgn (off : Byte) (v : Word) : Prop := off.toNat / 4 = 2 ∧ v.getLsbD 2 = true

theorem status_index_iff {off : Byte} {r : HostReg} (h : regAt off = some r) :
    off.toNat / 4 = 2 ↔ r = .status := by
  constructor
  · intro hoff
    have hreg : regAt off = some .status := regAt_of_index hoff
    exact Option.some.inj (h.symm.trans hreg)
  · rintro rfl
    exact index_of_regAt h

theorem hostWrite_ign_of_taken {off : Byte} {s : State} (v : Word) (h : ¬ WriteIgnored off s) :
    (hostWrite off v s).ign = true ↔ s.ign = true ∧ ¬ AcksIgn off v := by
  cases hr : regAt off with
  | none =>
    have hoff := reserved_of_regAt hr
    have hnot : ¬ AcksIgn off v := fun ⟨hstatus, _⟩ => by omega
    simp [hostWrite, hr, hnot]
  | some r =>
    have htaken : refusesWrite r s = false := by
      simpa [writeIgnored_iff s hr] using h
    rw [hostWrite_of_regAt hr, regWrite_ign_of_taken v htaken, AcksIgn, status_index_iff hr]
    simp [imp_iff_not_or]

theorem not_acksIgn_of_ignored {off : Byte} {s : State} (v : Word) (h : WriteIgnored off s) :
    ¬ AcksIgn off v := by
  rintro ⟨hoff, -⟩
  simp [WriteIgnored, hoff] at h

/-- R27: a host write raises IGN only by being ignored. -/
theorem writeIgnored_of_ign_rises {off : Byte} {v : Word} {s : State} (hs : s.ign = false)
    (h : (hostWrite off v s).ign = true) : WriteIgnored off s := by
  by_contra hig
  have := ((hostWrite_ign_of_taken v hig).mp h).1
  simp [hs] at this

/-- R27, R213: a host write lowers IGN exactly by acknowledging it. -/
theorem hostWrite_ign_falls_iff {off : Byte} {v : Word} {s : State} (hs : s.ign = true) :
    (hostWrite off v s).ign = false ↔ AcksIgn off v := by
  by_cases hig : WriteIgnored off s
  · simp [hostWrite_of_ignored v hig, not_acksIgn_of_ignored v hig]
  · rw [← Bool.not_eq_true, hostWrite_ign_of_taken v hig]
    simp [hs]

/-- A step by what it does to IGN: a host write acts on it by the rules above, reset clears it, and every
other event keeps it. -/
theorem step_ign_cases {s t : State} (h : step s = .next t) :
    (∃ off v, s.inputs.head? = some (.hostWrite off v) ∧
      t = hostWrite off v (setInputs s.inputs.tail s)) ∨
    (s.inputs.head? = some .reset ∧ t.ign = false) ∨
    ((∀ off v, s.inputs.head? ≠ some (.hostWrite off v)) ∧ s.inputs.head? ≠ some .reset ∧
      t.ign = s.ign) := by
  rcases step_cases h with ⟨hi, ht⟩ | ⟨rest, ⟨hi, ht⟩ | ⟨a, hi, rfl⟩ | ⟨a, hi, rfl⟩ | ⟨off, hi, rfl⟩ |
    ⟨off, v, hi, rfl⟩ | ⟨hi, rfl⟩⟩
  case inl => simp [hi, (engineTurn_hostKept ht).ign]
  all_goals simp only [hi, List.head?_cons, List.tail_cons]
  · simp [(engineTurn_hostKept ht).ign]
  · simp [(consumeAnswer_hostKept a (setInputs rest s)).ign]
  · simp
  · simp
  · exact .inl ⟨off, v, rfl, rfl⟩
  · exact .inr (.inl ⟨trivial, rfl⟩)

/-- Settles O35: by the event of the step, and for a host write by whether BPCE ignores it. -/
theorem ignMarksIgnoredWrites : Obligations.IgnMarksIgnoredWrites := by
  intro s t h
  rcases step_ign_cases h with ⟨off, v, hi, rfl⟩ | ⟨hi, ht⟩ | ⟨hw, hr, ht⟩
  · refine ⟨?_, ?_, and_congr_right fun hs => ?_⟩
    · intro off' v' hi' hig
      cases hi.symm.trans hi'
      exact hostWrite_of_ignored (s := setInputs s.inputs.tail s) v hig
    · rintro ⟨hs, ht⟩
      exact ⟨off, v, hi, writeIgnored_of_ign_rises (s := setInputs s.inputs.tail s) hs ht⟩
    · rw [hostWrite_ign_falls_iff (s := setInputs s.inputs.tail s) hs, hi]
      simp [AcksIgn]
  · simp [hi, ht]
  · simp [hw, hr, ht]

end Sys2Proof.Machine
end

section
/-! PROOFS. The statements about the host port of 20_memory.md: reads have no side effect, and what is
reserved reads 0 and takes no write. -/

namespace Sys2Proof.Machine

/-! ## Reads -/

/-- R64: no read depends on the schedule or on the record of the last read, whatever they hold. -/
theorem portValue_of_ports (off : Byte) (s : State) (l : List Event) (w : Word) :
    portValue off { s with inputs := l, portData := w } = portValue off s := by
  cases h : regAt off with
  | none => simp [portValue, h]
  | some r =>
    rw [portValue_of_regAt h, portValue_of_regAt h]
    cases r <;> rfl

/-- Settles O23: the step is `hostRead`, and a read sees neither the schedule nor `portData`. -/
theorem hostReadsHaveNoSideEffect : Obligations.HostReadsHaveNoSideEffect := by
  intro s off rest hi
  have hread : portValue off (setInputs rest s) = portValue off s :=
    portValue_of_ports off s rest s.portData
  refine ⟨?_, fun off' => portValue_of_ports off' s rest _⟩
  calc step s = .next (hostRead off (setInputs rest s)) := step_cons hi
    _ = .next { s with inputs := rest, portData := portValue off s } := by
      rw [hostRead, hread, setInputs]

/-! ## Reserved offsets -/

/-- R62: at a reserved offset a read returns 0 and a write changes nothing. -/
theorem reserved_offset_inert {off : Byte} (h : off.toNat / 4 = 15 ∨ 28 ≤ off.toNat / 4) (v : Word)
    (s : State) : portValue off s = 0 ∧ hostWrite off v s = s := by
  simp [portValue, hostWrite, regAt_reserved h]

/-! ## Reserved bits read 0 -/

/-- A field read through a wider register stays below its own bound. -/
theorem toNat_setWidth_lt {m n : Nat} (x : BitVec m) : (x.setWidth n).toNat < 2 ^ m :=
  x.toNat_setWidth n ▸ (Nat.mod_le _ _).trans_lt x.isLt

/-- R24: bits 3, 7 and 31:17 of STATUS; each lies above fields too narrow to reach it. -/
theorem statusWord_reserved (s : State) :
    (statusWord s).getLsbD 3 = false ∧ (statusWord s).getLsbD 7 = false ∧
      (statusWord s).toNat < 2 ^ 17 := by
  simp only [BitVec.getLsbD, Nat.testBit_eq_decide_div_mod_eq, decide_eq_false_iff_not, toNat_statusWord]
  have hlow : s.busy.toNat + s.done.toNat * 2 + s.ign.toNat * 2 ^ 2 < 2 ^ 3 := by
    linarith [s.busy.toNat_le, s.done.toNat_le, s.ign.toNat_le]
  have hseq := (seqCode s.seqState).isLt
  refine ⟨by omega, by omega, ?_⟩
  linarith [s.busOpen.toNat_le, s.calValid.toNat_le, s.tvalid.toNat_le, s.pvalid.toNat_le,
    s.p32valid.toNat_le, s.avalid.toNat_le, s.rvalid.toNat_le, s.psent.toNat_le, (irq s).toNat_le]

/-- R38: bits 31:24 and 15:12 of a legal completion record. -/
theorem legalRecord_reserved {w : Word} (h : LegalRecord w) :
    w.toNat < 2 ^ 24 ∧ w.toNat / 2 ^ 12 % 2 ^ 4 = 0 := by
  obtain ⟨op, idx, code, hop, rfl, hcase⟩ := h
  have hidx : idx ≤ 11 := by omega
  have hcode : code < 2 ^ 8 := by
    rcases hcase with ⟨rfl, -⟩ | ⟨hmem, -⟩
    · decide
    · simp only [List.mem_cons, List.not_mem_nil, or_false] at hmem
      omega
  rw [BitVec.toNat_ofNat, Nat.mod_eq_of_lt (by omega)]
  omega

/-! ## Reserved bits of a write -/

/-- Writes that a register does not tell apart, at that register's offset. -/
theorem hostWrite_regOffset_congr {r : HostReg} {v v' : Word} {s : State}
    (h : regWrite r v s = regWrite r v' s) :
    hostWrite (regOffset r) v s = hostWrite (regOffset r) v' s := by
  rw [hostWrite_of_regAt (regAt_regOffset r), hostWrite_of_regAt (regAt_regOffset r), h]

/-- The low `n` bits of a word decide what an `n`-bit field stores of it. -/
theorem setWidth_eq_of_mod_eq {n : Nat} {v v' : Word} (h : v.toNat % 2 ^ n = v'.toNat % 2 ^ n) :
    v.setWidth n = v'.setWidth n :=
  BitVec.eq_of_toNat_eq (by rw [BitVec.toNat_setWidth, BitVec.toNat_setWidth, h])

/-- Settles O24: each access goes to the register of its offset, which has only its defined bits to give
(R24, R38) and looks at no other bit of a write (R22, R26, R27, R39, R41, R42). -/
theorem reservedOffsetsAndBits : Obligations.ReservedOffsetsAndBits := by
  refine ⟨fun s off v h => reserved_offset_inert h v s, fun s => ?_, fun s h => ?_,
    fun s v v' => ⟨fun hie => ?_, fun hdone hign => ?_, fun hlow => ?_, fun hlow => ⟨?_, ?_⟩⟩⟩
  · have hstatus : portValue 0x08 s = statusWord s := portValue_regOffset .status s
    rw [hstatus]
    exact ⟨toNat_setWidth_lt (BitVec.ofBool s.ie), toNat_setWidth_lt s.devAddr,
      toNat_setWidth_lt s.rawT, toNat_setWidth_lt s.rawP, statusWord_reserved s⟩
  · exact legalRecord_reserved h
  · exact hostWrite_regOffset_congr (r := .ctrl) (by rw [regWrite, regWrite, hie])
  · exact hostWrite_regOffset_congr (r := .status)
      (by rw [regWrite, regWrite, ackStatus, ackStatus, hdone, hign])
  · exact hostWrite_regOffset_congr (r := .devAddr)
      (by rw [regWrite, regWrite, setWidth_eq_of_mod_eq hlow])
  · exact hostWrite_regOffset_congr (r := .rawT)
      (by rw [regWrite, regWrite, setWidth_eq_of_mod_eq hlow])
  · exact hostWrite_regOffset_congr (r := .rawP)
      (by rw [regWrite, regWrite, setWidth_eq_of_mod_eq hlow])

end Sys2Proof.Machine
end

section
/-! PROOFS. The statements about the encoding of 30_encoding.md: the decoder against the encoder and the
legality check, and the DECODE step of an illegal word. -/

namespace Sys2Proof.Machine

/-! ## The opcode map -/

/-- R83: every command's opcode is its own in the case table. -/
@[simp] theorem decodeOpc_opcodeOf (i : Instr) : decodeOpc (opcodeOf i) = some i := by
  cases i <;> rfl

/-- R86: the case table is the opcode column read backwards. -/
theorem decodeOpc_eq_some_iff (o : Byte) (i : Instr) : decodeOpc o = some i ↔ o = opcodeOf i := by
  constructor
  · intro h
    unfold decodeOpc at h
    split at h <;> cases h
    all_goals exact BitVec.eq_of_toNat_eq ‹_›
  · rintro rfl
    exact decodeOpc_opcodeOf i

/-- R85: the assigned values of OPC as three ranges. -/
theorem opcAssigned_iff (w : Word) :
    opcAssigned w = true ↔ w.toNat % 256 ≤ 0x04 ∨ 0x10 ≤ w.toNat % 256 ∧ w.toNat % 256 ≤ 0x12 ∨
      0x20 ≤ w.toNat % 256 ∧ w.toNat % 256 ≤ 0x22 := by
  simp [opcAssigned, or_assoc]

/-- R85: the assigned ranges are the rows of the case table. -/
theorem opcAssigned_iff_isSome (w : Word) :
    opcAssigned w = true ↔ (decodeOpc (opcOf w)).isSome = true := by
  rw [opcAssigned_iff, decodeOpc, toNat_opcOf]
  split
  case h_12 =>
    simp only [imp_false] at *
    simp only [Option.isSome_none, Bool.false_eq_true, iff_false]
    omega
  all_goals simp [*]

/-! ## The decoder's three answers -/

theorem decode_reserved {w : Word} (h : 256 ≤ w.toNat) : decode w = .error .reservedBits := by
  have hrsv : rsvOf w ≠ 0 := fun h0 => absurd ((rsvOf_eq_zero_iff w).mp h0) (by omega)
  exact if_pos hrsv

theorem decode_assigned {w : Word} {i : Instr} (h : w.toNat < 256)
    (ho : decodeOpc (opcOf w) = some i) : decode w = .ok i := by
  simp [decode, (rsvOf_eq_zero_iff w).mpr h, ho]

theorem decode_unassigned {w : Word} (h : w.toNat < 256) (ho : decodeOpc (opcOf w) = none) :
    decode w = .error .unassignedOpcode := by
  simp [decode, (rsvOf_eq_zero_iff w).mpr h, ho]

/-- R86: which of the three answers the decoder gives, and when. -/
theorem decode_cases (w : Word) :
    (256 ≤ w.toNat ∧ decode w = .error .reservedBits) ∨
    (w.toNat < 256 ∧ ∃ i, decodeOpc (opcOf w) = some i ∧ decode w = .ok i) ∨
    (w.toNat < 256 ∧ decodeOpc (opcOf w) = none ∧ decode w = .error .unassignedOpcode) := by
  by_cases h : w.toNat < 256
  · cases ho : decodeOpc (opcOf w) with
    | some i => exact .inr (.inl ⟨h, i, rfl, decode_assigned h ho⟩)
    | none => exact .inr (.inr ⟨h, rfl, decode_unassigned h ho⟩)
  · exact .inl ⟨by omega, decode_reserved (by omega)⟩

theorem decode_reservedBits_iff (w : Word) : decode w = .error .reservedBits ↔ 256 ≤ w.toNat := by
  rcases decode_cases w with ⟨h, hd⟩ | ⟨h, i, -, hd⟩ | ⟨h, -, hd⟩
  · simp [hd, h]
  · simp [hd]; omega
  · simp [hd]; omega

theorem decode_ok_iff (w : Word) (i : Instr) :
    decode w = .ok i ↔ w.toNat < 256 ∧ decodeOpc (opcOf w) = some i := by
  rcases decode_cases w with ⟨h, hd⟩ | ⟨h, j, ho, hd⟩ | ⟨h, ho, hd⟩
  · simp [hd]; omega
  · simp [hd, ho, h]
  · simp [hd, ho]

/-- R85, R86: the legality check, stated without the decoder, holds of the words it decodes. -/
theorem legalWord_iff_decode_ok (w : Word) : legalWord w = true ↔ ∃ i, decode w = .ok i := by
  simp only [legalWord, rsvClear, Bool.and_eq_true, decide_eq_true_eq, opcAssigned_iff_isSome,
    Option.isSome_iff_exists, decode_ok_iff, exists_and_left]

theorem illegalWord_iff_decode_error (w : Word) :
    legalWord w = false ↔ ∃ e, decode w = .error e := by
  rw [← Bool.not_eq_true, legalWord_iff_decode_ok]
  cases decode w <;> simp

theorem decode_unassignedOpcode_iff (w : Word) :
    decode w = .error .unassignedOpcode ↔ w.toNat < 256 ∧ legalWord w = false := by
  rw [illegalWord_iff_decode_error]
  rcases decode_cases w with ⟨h, hd⟩ | ⟨h, i, -, hd⟩ | ⟨h, -, hd⟩
  · simp [hd]; omega
  · simp [hd]
  · simp [hd, h]

/-! ## The decoder against the encoder -/

/-- R83: a word is a command's word when its bits 31:8 are 0 and its bits 7:0 are the opcode. -/
theorem eq_encode_iff (w : Word) (i : Instr) :
    w = encode i ↔ w.toNat < 256 ∧ opcOf w = opcodeOf i := by
  rw [← BitVec.toNat_inj, ← BitVec.toNat_inj, toNat_encode, toNat_opcOf]
  have := (opcodeOf i).isLt
  omega

/-- R86: decoding is the inverse of encoding. -/
theorem decode_ok_iff_eq_encode (w : Word) (i : Instr) : decode w = .ok i ↔ w = encode i := by
  rw [decode_ok_iff, decodeOpc_eq_some_iff, eq_encode_iff]

@[simp] theorem decode_encode (i : Instr) : decode (encode i) = .ok i :=
  (decode_ok_iff_eq_encode _ i).mpr rfl

/-! ## The decoder on bytes -/

/-- R63: four bytes, lowest address first, as a number. -/
theorem toNat_wordOfBytes (b0 b1 b2 b3 : Byte) :
    (wordOfBytes b0 b1 b2 b3).toNat =
      b3.toNat * 2 ^ 24 + b2.toNat * 2 ^ 16 + b1.toNat * 2 ^ 8 + b0.toNat := by
  simp only [wordOfBytes, toNat_append_fields]
  omega

/-- R63: a word's four bytes are the word. -/
@[simp] theorem wordOfBytes_bytes (w : Word) :
    wordOfBytes (w.extractLsb' 0 8) (w.extractLsb' 8 8) (w.extractLsb' 16 8) (w.extractLsb' 24 8) = w := by
  apply BitVec.eq_of_toNat_eq
  have := w.isLt
  simp only [toNat_wordOfBytes, BitVec.extractLsb'_toNat, Nat.shiftRight_eq_div_pow]
  omega

/-- R81, R86: a command's four bytes at the head of a stream. -/
theorem decodeBytes_bytesOfWord {w : Word} {i : Instr} (h : decode w = .ok i) (rest : List Byte) :
    decodeBytes (bytesOfWord w ++ rest) = .ok (i, rest) := by
  simp [bytesOfWord, decodeBytes, h]

/-- Settles O4: the decoder's three answers, the opcode map read in both directions, and the word made
of its bytes. -/
theorem decodeAndEncodeAgree : Obligations.DecodeAndEncodeAgree :=
  ⟨decode_ok_iff_eq_encode, decode_reservedBits_iff, decode_unassignedOpcode_iff,
    fun i rest => decodeBytes_bytesOfWord (decode_encode i) rest⟩

/-- Settles O3: each of the eleven words is a command's encoding. -/
theorem opcodeWordsDecode : Obligations.OpcodeWordsDecode :=
  ⟨decode_encode .nop, decode_encode .init, decode_encode .readT, decode_encode .readP,
    decode_encode .readAlt, decode_encode .compT, decode_encode .compP, decode_encode .compP32,
    decode_encode .alt, decode_encode .log2, decode_encode .exp2⟩

/-! ## The DECODE step of an illegal word -/

/-- R72: the step in which the engine moves, scheduled or by itself, only takes its event off the
schedule around the engine's turn. -/
theorem step_engine {s : State} (h : s.inputs = [] ∨ s.inputs.head? = some .engine) :
    step s = engineTurn (setInputs s.inputs.tail s) := by
  cases hi : s.inputs with
  | nil =>
    have hs : setInputs [] s = s := by rw [← hi]; rfl
    rw [step_nil hi, List.tail_nil, hs]
  | cons e rest =>
    obtain rfl : e = .engine := by simpa [hi] using h
    exact step_cons hi

/-- Settles O7: the engine's turn at DECODE of a refused word is `complete`. -/
theorem illegalWordCompletes : Obligations.IllegalWordCompletes := by
  intro s hi hs hw
  obtain ⟨e, he⟩ := (illegalWord_iff_decode_error _).mp hw
  calc step s = engineTurn (setInputs s.inputs.tail s) := step_engine hi
    _ = decodeStep (setInputs s.inputs.tail s) := engineTurn_decode hs
    _ = .next (complete .illegalCommand 0 (setInputs s.inputs.tail s)) := decodeStep_illegal he
    _ = .next (completed (setInputs s.inputs.tail s) 0 0x10) :=
      congrArg _ (complete_eq_completed .illegalCommand 0 _)

end Sys2Proof.Machine
end

section
/-! PROOFS. The statements about the bus sequencer of 40_sequencer.md: answer bytes as values, NOP, and the
three commands that fetch a sample. -/

namespace Sys2Proof.Machine

/-! ## The step that consumes an answer -/

/-- R110: the step that consumes the answer, by the position that waits for it. -/
def afterAnswer : SeqStep → BusAnswer → State → State
  | .initOpen => afterOpen
  | .initRead i => afterCalRead i
  | .initWrite => afterModeWrite
  | .readT => afterReadT
  | .readP => afterReadP
  | .readAlt => afterReadAlt
  | .idle | .decode => fun _ => id

/-- R101: with a transaction in flight the position alone picks the step. -/
theorem consumeAnswer_awaited {s : State} (a : BusAnswer) (hr : s.busreq.isSome = true) :
    consumeAnswer a s = afterAnswer s.seqStep a s := by
  obtain ⟨r, hr⟩ := Option.isSome_iff_exists.mp hr
  simp only [consumeAnswer, hr]
  cases s.seqStep <;> rfl

/-- R101, R110: an answer's step from the position `p` that waits for it. -/
theorem step_awaited {s : State} {p : SeqStep} {a : BusAnswer} {rest : List Event}
    (hr : s.busreq.isSome = true) (hp : s.seqStep = p) (h : s.inputs = .answer a :: rest) :
    step s = .next (afterAnswer p a (setInputs rest s)) := by
  rw [step_answer h, consumeAnswer_awaited (s := setInputs rest s) a hr, setInputs_seqStep, hp]

/-! ## Answer bytes as values -/

/-- R102: a calibration word is its bytes low first. -/
theorem toNat_cal16 (b0 b1 : Byte) : (cal16 b0 b1).toNat = b1.toNat * 256 + b0.toNat :=
  toNat_append_fields b1 b0

/-- R102: a sample is its 24 bits without the lowest four. -/
theorem toNat_raw20 (b0 b1 b2 : Byte) :
    (raw20 b0 b1 b2).toNat = (b0.toNat * 65536 + b1.toNat * 256 + b2.toNat) / 16 := by
  simp only [raw20, BitVec.extractLsb'_toNat, toNat_append_fields, Nat.shiftRight_eq_div_pow]
  omega

/-- R102: of its third byte a sample keeps the high nibble only. -/
theorem raw20_congr (b0 b1 : Byte) {b2 b2' : Byte} (h : b2.toNat / 16 = b2'.toNat / 16) :
    raw20 b0 b1 b2 = raw20 b0 b1 b2' := by
  apply BitVec.eq_of_toNat_eq
  rw [toNat_raw20, toNat_raw20]
  omega

/-- R102: at every position, two answers that differ only in the low nibble of the third byte do the
same. -/
theorem afterAnswer_congr (p : SeqStep) (s : State) (b0 b1 : Byte) {b2 b2' : Byte}
    (h : b2.toNat / 16 = b2'.toNat / 16) :
    afterAnswer p (.ok b0 b1 b2) s = afterAnswer p (.ok b0 b1 b2') s := by
  have hraw := raw20_congr b0 b1 h
  cases p with
  | idle | decode | initOpen | initRead | initWrite => rfl
  | readT => simp only [afterAnswer, afterReadT, hraw]
  | readP => simp only [afterAnswer, afterReadP, hraw]
  | readAlt => simp only [afterAnswer, afterReadAlt, hraw]

/-- Settles O38: no step of INIT looks at the third byte, and the steps of the three reads look at it
through `raw20`. -/
theorem sampleLowNibbleIsDropped : Obligations.SampleLowNibbleIsDropped := by
  refine ⟨toNat_cal16, toNat_raw20, fun s b0 b1 b2 b2' h => ?_⟩
  cases hr : s.busreq with
  | none => rw [consumeAnswer_discarded _ hr, consumeAnswer_discarded _ hr]
  | some r =>
    have hsome : s.busreq.isSome = true := Option.isSome_of_eq_some hr
    rw [consumeAnswer_awaited _ hsome, consumeAnswer_awaited _ hsome, afterAnswer_congr _ s b0 b1 h]

/-! ## The DECODE step -/

/-- `complete` without an index, as the outcome of a step, in the statements' terms. -/
theorem next_complete (c : Code) (s : State) :
    (.next (complete c 0 s) : Out) = .next (completed s 0 (codeByte c).toNat) :=
  congrArg _ (complete_eq_completed c 0 s)

/-- Settles O8: NOP is `complete`. -/
theorem nopCompletesWithNone : Obligations.NopCompletesWithNone := by
  refine ⟨decode_encode .nop, next_complete .none, fun s h => ?_⟩
  rw [h]
  rfl

/-- What a command clears at DECODE, before its checks (R31–R36, R106). -/
def clearedAtDecode : Instr → State → State
  | .nop => id
  | .init => clearEpoch
  | .readT | .compT => clearT
  | .readP | .compP => clearP
  | .readAlt => clearPA
  | .compP32 => clearP32
  | .alt => clearA
  | .log2 | .exp2 => clearR

/-- R178: EXP2's check of the integer part, as `firstFailure` writes it. -/
theorem exp2_domain_iff (w : Word) : 8 ≤ sra w.toInt 24 ↔ 8 * 2 ^ 24 ≤ w.toInt := by
  rw [sra_eq_div]
  omega

/-- R205, R210: a command whose checks fail completes with the first failing check's code on the state its
clears made, and issues no transaction. -/
theorem exec_of_failure {i : Instr} {s : State} {code : Nat} (h : firstFailure i s = some code) :
    exec i s = .next (completed (clearedAtDecode i s) 0 code) := by
  cases i
  case nop | init => simp only [firstFailure_nop, firstFailure_init, reduceCtorEq] at h
  case readT | compT | log2 =>
    simp only [firstFailure_readT, firstFailure_compT, firstFailure_log2] at h
    split_ifs at h with h1
    cases h
    exact (if_pos h1).trans (next_complete _ _)
  case readP | compP | compP32 =>
    simp only [firstFailure_readP, firstFailure_compP, firstFailure_compP32] at h
    split_ifs at h with h1 h2 <;> cases h
    · exact (if_pos h1).trans (next_complete _ _)
    · exact (if_neg h1).trans ((if_pos h2).trans (next_complete _ _))
  case readAlt | alt =>
    simp only [firstFailure_readAlt, firstFailure_alt] at h
    split_ifs at h with h1 h2 h3 <;> cases h
    · exact (if_pos h1).trans (next_complete _ _)
    · exact (if_neg h1).trans ((if_pos h2).trans (next_complete _ _))
    · exact (if_neg h1).trans ((if_neg h2).trans ((if_pos h3).trans (next_complete _ _)))
  case exp2 =>
    rw [firstFailure_exp2] at h
    split_ifs at h with h1
    cases h
    exact (if_pos ((exp2_domain_iff _).mpr h1)).trans (next_complete _ _)

/-! ## READ_T, READ_P and READ_ALT -/

/-- Settles O13: DECODE by the check of R107, the answer by READ_T's completion. -/
theorem readTFetchesAndCompensates : Obligations.ReadTFetchesAndCompensates := by
  refine ⟨decode_encode .readT, fun s hq => ?_, fun s hq => if_neg (not_not.mpr hq),
    fun s rest hr hs => ⟨fun h => ?_, fun b0 b1 b2 h => ?_⟩, by decide⟩
  · exact exec_of_failure (i := .readT) (by rw [firstFailure_readT, if_pos hq])
  · exact (step_awaited hr hs h).trans (next_complete .busReadError _)
  · exact (step_awaited hr hs h).trans (next_complete .none _)

/-- R146: a zero divisor gives pressure 0 with the sentinel. -/
theorem compP64_of_zero_divisor {tf : Word} {c : CalTable} (raw : Raw) (h : divisor64 tf c = 0) :
    compP64 tf raw c = (0, true) :=
  if_pos h

/-- Settles O14: DECODE by the two checks of R108 in order, the answer by READ_P's completion. -/
theorem readPFetchesAndCompensates : Obligations.ReadPFetchesAndCompensates := by
  refine ⟨decode_encode .readP, fun s hq => ?_, fun s hq ht => ?_, fun s hq ht => ?_,
    fun s rest hr hs => ⟨fun h => ?_, fun b0 b1 b2 h => ?_⟩,
    fun _ raw _ => compP64_of_zero_divisor raw, by decide⟩
  · exact exec_of_failure (i := .readP) (by rw [firstFailure_readP, if_pos hq])
  · exact exec_of_failure (i := .readP) (by simp [firstFailure_readP, hq, ht])
  · exact (if_neg (not_not.mpr hq)).trans (if_neg (by simp [ht]))
  · exact (step_awaited hr hs h).trans (next_complete .busReadError _)
  · exact (step_awaited hr hs h).trans (next_complete .none _)

/-- R175, R179: pressure 0 converts to 44330 m. -/
theorem altfx_zero (p : Word) : altfx 0 p = 11348480 := by
  rw [altfx, if_pos rfl]
  rfl

/-- R181: a pressure equal to the reference converts to 0, because exp2fx(0) is exactly 1.0. -/
theorem altfx_self {p : Word} (h : p ≠ 0) : altfx p p = 0 := by
  have hone : exp2fx (sra (0 * eAlt) 32) = 16777216 := by decide
  rw [altfx, if_neg h, sub_self]
  simp only [hone]
  rfl

/-- Settles O15: DECODE by the three checks of R109 in order, the answer by READ_ALT's completion. -/
theorem readAltFetchesAndConverts : Obligations.ReadAltFetchesAndConverts := by
  refine ⟨decode_encode .readAlt, fun s hq => ?_, fun s hq ht => ?_, fun s hq ht hp => ?_,
    fun s hq ht hp => ?_, fun s rest hr hs => ⟨fun h => ?_, fun b0 b1 b2 _ h => ?_⟩,
    fun p h => ⟨altfx_zero p, altfx_self h⟩, by decide⟩
  · exact exec_of_failure (i := .readAlt) (by rw [firstFailure_readAlt, if_pos hq])
  · exact exec_of_failure (i := .readAlt) (by simp [firstFailure_readAlt, hq, ht])
  · exact exec_of_failure (i := .readAlt) (by simp [firstFailure_readAlt, hq, ht, hp])
  · exact (if_neg (not_not.mpr hq)).trans ((if_neg (by simp [ht])).trans (if_neg hp))
  · exact (step_awaited hr hs h).trans (next_complete .busReadError _)
  · exact (step_awaited hr hs h).trans (next_complete .none _)

end Sys2Proof.Machine
end

section
/-! PROOFS. The statements about the compensation pipeline of 41_compensation.md: the conversion to
hundredths of a degree, and the three commands that compensate a sample the host wrote. -/

namespace Sys2Proof.Machine

/-! ## Temperature -/

/-- R143: the conversion with its shift as a floor division. -/
theorem temp100_eq (tf : Int) : temp100 tf = (tf * 5 + 128) / 256 :=
  sra_eq_div (tf * 5 + 128) 8

/-- Settles O42: the rounding and the range are facts of the floor division by 256. -/
theorem temp100Rounds : Obligations.Temp100Rounds := by
  refine ⟨temp100_eq, fun tf => ?_, fun tf hlo hhi => ?_, by decide⟩
  · rw [temp100_eq]
    omega
  · rw [temp100_eq]
    omega

/-- R141: both terms of the fine temperature have a factor T2 or T3. -/
theorem compT_zero_slopes (raw : Raw) (t1 : Half) : compT raw t1 0 0 = 0 := by
  have hs16 : s16 0 = 0 := by decide
  simp only [compT, hs16, mul_zero, sra, Int.zero_shiftRight, add_zero]

/-- Settles O16: by the one check of R142; past it the command is `temperatureStage`. -/
theorem compTWritesTheTemperature : Obligations.CompTWritesTheTemperature := by
  refine ⟨decode_encode .compT, fun s hq => ?_, fun s hq => ?_, compT_zero_slopes, by decide, by decide,
    by decide, by decide⟩
  · exact exec_of_failure (i := .compT) (by rw [firstFailure_compT, if_pos hq])
  · exact (if_neg (not_not.mpr hq)).trans (next_complete .none _)

/-! ## Pressure -/

/-- R146: P1 is a factor of the 64-bit form's divisor. -/
theorem divisor64_of_p1_zero (tf : Word) {c : CalTable} (h : c.p1 = 0) : divisor64 tf c = 0 := by
  have hu16 : u16 c.p1 = 0 := by rw [h]; rfl
  simp only [divisor64, hu16, mul64, mul_zero]
  rfl

/-- R146: P1 is a factor of the 32-bit form's divisor. -/
theorem divisor32_of_p1_zero (tf : Word) {c : CalTable} (h : c.p1 = 0) : divisor32 tf c = 0 := by
  have hu16 : u16 c.p1 = 0 := by rw [h]; rfl
  simp only [divisor32, hu16, mulS32, mul_zero]
  rfl

/-- R146: a zero divisor of the 32-bit form gives pressure 0 with the sentinel. -/
theorem compP32_of_zero_divisor {tf : Word} {c : CalTable} (raw : Raw) (h : divisor32 tf c = 0) :
    compP32 tf raw c = (0, true) :=
  if_pos h

/-- R152: below 2^31 the dividend is doubled before the division. -/
theorem divide32_of_lt {p : Int} (d : Int) (h : p < 2 ^ 31) : divide32 p d = p * 2 / d :=
  if_pos h

/-- R152: from 2^31 on the quotient is doubled, in 32 bits. -/
theorem divide32_of_ge {p : Int} (d : Int) (h : 2 ^ 31 ≤ p) : divide32 p d = p / d * 2 % 2 ^ 32 :=
  if_neg (not_lt.mpr h)

/-- Settles O17: by the two checks of R145 in order; past them the command is `pressureStage`. -/
theorem compPWritesThePressure : Obligations.CompPWritesThePressure := by
  refine ⟨decode_encode .compP, fun s hq => ?_, fun s hq ht => ?_, fun s hq ht => ?_,
    fun tf raw _ h => compP64_of_zero_divisor raw (divisor64_of_p1_zero tf h), by decide, by decide⟩
  · exact exec_of_failure (i := .compP) (by rw [firstFailure_compP, if_pos hq])
  · exact exec_of_failure (i := .compP) (by simp [firstFailure_compP, hq, ht])
  · exact (if_neg (not_not.mpr hq)).trans ((if_neg (by simp [ht])).trans (next_complete .none _))

/-- Settles O18: by the two checks of R147 in order; past them the command is `pressure32Stage`. -/
theorem compP32WritesThePressure : Obligations.CompP32WritesThePressure := by
  refine ⟨decode_encode .compP32, fun s hq => ?_, fun s hq ht => ?_, fun s hq ht => ?_,
    fun _ d => ⟨divide32_of_lt d, divide32_of_ge d⟩,
    fun tf raw _ h => compP32_of_zero_divisor raw (divisor32_of_p1_zero tf h), by decide, by decide⟩
  · exact exec_of_failure (i := .compP32) (by rw [firstFailure_compP32, if_pos hq])
  · exact exec_of_failure (i := .compP32) (by simp [firstFailure_compP32, hq, ht])
  · exact (if_neg (not_not.mpr hq)).trans ((if_neg (by simp [ht])).trans (next_complete .none _))

end Sys2Proof.Machine
end

section
/-! PROOFS. The statements about the altitude engine of 42_altitude.md: the commands LOG2 and EXP2, and the
values of their functions that the rules name. -/

namespace Sys2Proof.Machine

/-! ## LOG2 -/

/-- R172: the mantissa 1.0 squares to itself, so no fraction bit is set. -/
theorem log2Loop_one (n : Nat) : log2Loop n (2 ^ 31) 0 = 0 := by
  have hsq : (2 ^ 31 * 2 ^ 31) >>> 31 = 2 ^ 31 := by decide
  induction n with
  | zero => rfl
  | succ n ih => rw [log2Loop_succ, hsq, if_neg (by decide), ih]

/-- R177: the logarithm of a power of two is exact, because its mantissa is 1.0. -/
theorem log2fx_two_pow {n : Nat} (h : n < 32) : log2fx (BitVec.ofNat 32 (2 ^ n)) = n * 2 ^ 24 := by
  have hx : (BitVec.ofNat 32 (2 ^ n)).toNat = 2 ^ n :=
    (BitVec.toNat_ofNat _ _).trans (Nat.mod_eq_of_lt (Nat.pow_lt_pow_right (by decide) h))
  have hm : (2 ^ n) <<< (31 - n) = 2 ^ 31 := by
    rw [Nat.shiftLeft_eq, ← Nat.pow_add, Nat.add_sub_of_le (by omega)]
  rw [log2fx_eq, hx, Nat.log2_two_pow, hm, log2Loop_one, Nat.add_zero]

/-- Settles O20: by the one check of R177; past it the command is `complete` with log2fx of ARG. -/
theorem log2WritesTheLogarithm : Obligations.Log2WritesTheLogarithm := by
  refine ⟨decode_encode .log2, fun s ha => ?_, fun s ha => ?_, fun n => log2fx_two_pow n.isLt,
    log2fx_two_pow (n := 0) (by decide), by decide, by decide⟩
  · exact exec_of_failure (i := .log2) (by rw [firstFailure_log2, if_pos ha])
  · exact (if_neg ha).trans (next_complete .none _)

/-! ## EXP2 -/

/-- R173: the mantissa stays below 2.0, because the product of all table entries does. -/
theorem exp2core_mantissa_lt (y : Int) : (exp2core y).2 < 2 ^ 31 :=
  calc (exp2core y).2
      ≤ exp2Table.foldl (fun r c => (r * c) >>> 30) one30 :=
        exp2Loop_le _ exp2Table 24 one30 one30 le_rfl (by decide)
    _ < 2 ^ 31 := by decide

/-- R173: the integer part of the exponent is its floor. -/
theorem exp2core_floor (y : Int) : (exp2core y).1 = y / 2 ^ 24 :=
  sra_eq_div y 24

/-- R174: an integer part below 6 shifts the mantissa right. -/
theorem exp2fx_of_floor_lt {y : Int} (h : (exp2core y).1 < 6) :
    exp2fx y = if 32 ≤ (6 - (exp2core y).1).toNat then 0
      else (exp2core y).2 >>> (6 - (exp2core y).1).toNat :=
  if_neg (not_le.mpr h)

/-- R178: below -24.0 the mantissa is shifted right by at least 31, past its highest bit. -/
theorem exp2fx_of_lt {y : Int} (h : y < -24 * 2 ^ 24) : exp2fx y = 0 := by
  have hk : (exp2core y).1 ≤ -25 := by rw [exp2core_floor]; omega
  have hr := exp2core_mantissa_lt y
  rw [exp2fx_of_floor_lt (by omega)]
  split
  · rfl
  · have hsh : 2 ^ 31 ≤ 2 ^ (6 - (exp2core y).1).toNat := Nat.pow_le_pow_right (by decide) (by omega)
    rw [Nat.shiftRight_eq_div_pow]
    exact Nat.div_eq_of_lt (hr.trans_le hsh)

/-- Settles O21: by the one check of R178; past it the command is `complete` with exp2fx of ARG. -/
theorem exp2WritesTheExponential : Obligations.Exp2WritesTheExponential := by
  refine ⟨decode_encode .exp2, fun s hk => ?_, fun s hk => ?_, fun y hy => exp2fx_of_lt hy, by decide,
    exp2fx_of_lt (by decide), by decide, by decide, by decide⟩
  · exact exec_of_failure (i := .exp2) (by rw [firstFailure_exp2, if_pos (by omega)])
  · have hdomain : ¬ 8 ≤ sra s.arg.toInt 24 := by rw [sra_eq_div]; omega
    exact (if_neg hdomain).trans (next_complete .none _)

end Sys2Proof.Machine
end

section
/-! PROOFS. The DECODE step of every command in one case analysis: the first failing check completes it on
the state its clears made, and past its checks it does its work. -/

namespace Sys2Proof.Machine

/-! ## The DECODE step of any command -/

/-- What a command does at DECODE once its checks have passed, from the state its clears made: it completes,
or issues its one transaction (R105–R109, R142, R145, R147, R177, R178, R180). -/
def afterChecks : Instr → State → State
  | .nop => complete .none 0
  | .init => fun s => issue (.openDev s.devAddr) .initOpen s
  | .readT => fun s => issue (.rd s.devAddr tempReg .three) .readT s
  | .readP => fun s => issue (.rd s.devAddr pressReg .three) .readP s
  | .readAlt => fun s => issue (.rd s.devAddr pressReg .three) .readAlt s
  | .compT => complete .none 0 ∘ temperatureStage
  | .compP => complete .none 0 ∘ pressureStage
  | .compP32 => complete .none 0 ∘ pressure32Stage
  | .alt => complete .none 0 ∘ altitudeStage
  | .log2 => fun s => complete .none 0 { s with res := BitVec.ofNat 32 (log2fx s.arg), rvalid := true }
  | .exp2 => fun s =>
    complete .none 0 { s with res := BitVec.ofNat 32 (exp2fx s.arg.toInt), rvalid := true }

/-- R210: a command whose checks pass clears and does its work. -/
theorem exec_of_passed {i : Instr} {s : State} (h : firstFailure i s = none) :
    exec i s = .next (afterChecks i (clearedAtDecode i s)) := by
  cases i
  case nop | init => rfl
  case readT | compT | log2 =>
    simp only [firstFailure_readT, firstFailure_compT, firstFailure_log2] at h
    split_ifs at h with h1
    exact if_neg h1
  case readP | compP | compP32 =>
    simp only [firstFailure_readP, firstFailure_compP, firstFailure_compP32] at h
    split_ifs at h with h1 h2
    exact (if_neg h1).trans (if_neg h2)
  case readAlt | alt =>
    simp only [firstFailure_readAlt, firstFailure_alt] at h
    split_ifs at h with h1 h2 h3
    exact (if_neg h1).trans ((if_neg h2).trans (if_neg h3))
  case exp2 =>
    rw [firstFailure_exp2] at h
    split_ifs at h with h1
    exact if_neg (mt (exp2_domain_iff _).mp h1)

/-- R210: the two ways a DECODE step of a command ends. -/
theorem exec_cases {i : Instr} {s t : State} (h : exec i s = .next t) :
    (∃ code, firstFailure i s = some code ∧ t = completed (clearedAtDecode i s) 0 code) ∨
      (firstFailure i s = none ∧ t = afterChecks i (clearedAtDecode i s)) := by
  cases hf : firstFailure i s with
  | some code =>
    rw [exec_of_failure hf] at h
    cases h
    exact .inl ⟨code, rfl, rfl⟩
  | none =>
    rw [exec_of_passed hf] at h
    cases h
    exact .inr ⟨rfl, rfl⟩

/-- R104: the engine's turn leaves the state alone, completes an illegal word, or runs a command. -/
theorem engineTurn_cases {s t : State} (h : engineTurn s = .next t) :
    (s.seqStep ≠ .decode ∧ t = s) ∨
    (s.seqStep = .decode ∧ (∃ e, decode s.cmdl = .error e) ∧ t = complete .illegalCommand 0 s) ∨
    (s.seqStep = .decode ∧ ∃ i, s.cmdl = encode i ∧ exec i s = .next t) := by
  by_cases hs : s.seqStep = .decode
  · rw [engineTurn_decode hs] at h
    cases hd : decode s.cmdl with
    | error e =>
      rw [decodeStep_illegal hd] at h
      cases h
      exact .inr (.inl ⟨hs, ⟨e, rfl⟩, rfl⟩)
    | ok i =>
      rw [decodeStep_ok hd] at h
      exact .inr (.inr ⟨hs, i, (decode_ok_iff_eq_encode _ i).mp hd, h⟩)
  · rw [engineTurn_stays hs] at h
    cases h
    exact .inl ⟨hs, rfl⟩

/-- R201, R210: the codes of the four checks. -/
theorem firstFailure_code {i : Instr} {s : State} {code : Nat} (h : firstFailure i s = some code) :
    code ∈ [0x06, 0x11, 0x12, 0x13] := by
  simp only [firstFailure] at h
  split_ifs at h <;> cases h <;> decide

/-- R107–R109, R142–R147, R180: a command that needs READY passes its checks only there. -/
theorem ready_of_passed {i : Instr} {s : State} (hi : i ∉ [Instr.nop, .init, .log2, .exp2])
    (h : firstFailure i s = none) : s.seqState = .ready := by
  by_contra hq
  cases i <;> simp_all [firstFailure]

/-- R108, R109: a command that needs T_FINE passes its checks only with TVALID. -/
theorem tvalid_of_passed {i : Instr} {s : State} (hi : i ∈ [Instr.readP, .compP, .compP32, .readAlt])
    (h : firstFailure i s = none) : s.tvalid = true := by
  have hq := ready_of_passed (by cases i <;> simp at hi ⊢) h
  by_contra ht
  cases i <;> simp_all [firstFailure]

theorem slp_of_passed {s : State} (h : firstFailure .readAlt s = none) : s.slp ≠ 0 := by
  rw [firstFailure_readAlt] at h
  split_ifs at h with _ _ hslp
  exact hslp

/-! ## What the clears at DECODE leave unchanged -/

theorem clearedAtDecode_err (i : Instr) (s : State) : (clearedAtDecode i s).err = s.err := by
  cases i <;> rfl

theorem clearedAtDecode_cmdl (i : Instr) (s : State) : (clearedAtDecode i s).cmdl = s.cmdl := by
  cases i <;> rfl

theorem clearedAtDecode_busLog (i : Instr) (s : State) : (clearedAtDecode i s).busLog = s.busLog := by
  cases i <;> rfl

/-- R28, R106: of all commands only INIT writes SEQ_STATE at DECODE. -/
theorem clearedAtDecode_seqState {i : Instr} (hi : i ≠ .init) (s : State) :
    (clearedAtDecode i s).seqState = s.seqState := by
  cases i
  case init => exact absurd rfl hi
  all_goals rfl

/-! ## One step by the event that is next -/

/-- R72: a step takes its event off the schedule and does what the event does; with no event scheduled the
engine moves. -/
theorem step_event_cases {s t : State} (h : step s = .next t) :
    ((s.inputs = [] ∨ s.inputs.head? = some .engine) ∧
      engineTurn (setInputs s.inputs.tail s) = .next t) ∨
    (∃ a, s.inputs.head? = some (.answer a) ∧ t = consumeAnswer a (setInputs s.inputs.tail s)) ∨
    (∃ a, s.inputs.head? = some (.lateAnswer a) ∧ t = setInputs s.inputs.tail s) ∨
    (∃ off, s.inputs.head? = some (.hostRead off) ∧ t = hostRead off (setInputs s.inputs.tail s)) ∨
    (∃ off v, s.inputs.head? = some (.hostWrite off v) ∧
      t = hostWrite off v (setInputs s.inputs.tail s)) ∨
    (s.inputs.head? = some .reset ∧ t = applyReset (setInputs s.inputs.tail s)) := by
  cases hi : s.inputs with
  | nil => exact .inl ⟨.inl rfl, by rw [← hi, ← step_engine (.inl hi), h]⟩
  | cons e rest =>
    rw [step_cons hi] at h
    cases e <;> simp only [handleEvent, Host.Outcome.next.injEq] at h <;> simp [h]

/-- R55: the pieces of state that only the engine and reset write. -/
structure EngineKept (s t : State) : Prop where
  seqState : t.seqState = s.seqState
  calValid : t.calValid = s.calValid
  tFine : t.tFine = s.tFine
  temp : t.temp = s.temp
  cal : t.cal = s.cal
  busLog : t.busLog = s.busLog

theorem EngineKept.refl (s : State) : EngineKept s s := by
  constructor <;> rfl

theorem regWrite_engineKept (r : HostReg) (v : Word) (s : State) : EngineKept s (regWrite r v s) := by
  cases r <;> simp only [regWrite]
  case ctrl | status => constructor <;> rfl
  case cmd | devAddr | slp | rawT | rawP | arg => split <;> constructor <;> rfl
  all_goals exact .refl s

theorem hostWrite_engineKept (off : Byte) (v : Word) (s : State) : EngineKept s (hostWrite off v s) := by
  unfold hostWrite
  split
  · exact regWrite_engineKept _ v s
  · exact .refl s

/-- R55, R72: a step is an engine's turn, consumes an answer, is a reset, or is an event of the host or of
the environment, which leaves the engine's state alone. -/
theorem step_actor_cases {s t : State} (h : step s = .next t) :
    ((s.inputs = [] ∨ s.inputs.head? = some .engine) ∧
      engineTurn (setInputs s.inputs.tail s) = .next t) ∨
    (∃ a, s.inputs.head? = some (.answer a) ∧ t = consumeAnswer a (setInputs s.inputs.tail s)) ∨
    (s.inputs.head? = some .reset ∧ t = applyReset (setInputs s.inputs.tail s)) ∨
    (∃ e, s.inputs.head? = some e ∧ noAnswer e = true ∧ e ≠ .engine ∧ EngineKept s t) := by
  rcases step_event_cases h with hx | hx | ⟨a, hi, rfl⟩ | ⟨off, hi, rfl⟩ | ⟨off, v, hi, rfl⟩ | hx
  · exact .inl hx
  · exact .inr (.inl hx)
  · exact .inr (.inr (.inr ⟨_, hi, rfl, by simp, by constructor <;> rfl⟩))
  · exact .inr (.inr (.inr ⟨_, hi, rfl, by simp, by constructor <;> rfl⟩))
  · have hk := hostWrite_engineKept off v (setInputs s.inputs.tail s)
    exact .inr (.inr (.inr ⟨_, hi, rfl, by simp, { hk with }⟩))
  · exact .inr (.inr (.inl hx))

end Sys2Proof.Machine
end

section
/-! PROOFS. The invariant of the machine: it holds after reset, and every event of the schedule keeps it. -/

namespace Sys2Proof.Machine

/-! ## The parts of the invariant -/

/-- R29–R36: what ties SEQ_STATE, BUS_OPEN, CAL_VALID and the epoch's bits, whatever STEP is. -/
structure LinkInv (s : State) : Prop where
  link : linkAllowed s.seqState s.busOpen s.calValid
  epoch : (s.tvalid || s.pvalid || s.p32valid || s.avalid || s.psent) = true → s.seqState = .ready

theorem Inv.linkInv {s : State} (h : Inv s) : LinkInv s := ⟨h.link, h.epoch⟩

/-- In READY nothing is asked of the epoch's bits. -/
theorem linkInv_of_ready {s : State} (hq : s.seqState = .ready) (ho : s.busOpen = true)
    (hv : s.calValid = true) : LinkInv s :=
  ⟨by rw [hq]; exact ⟨ho, hv⟩, fun _ => hq⟩

theorem LinkInv.of_ready {s t : State} (h : LinkInv s) (hs : s.seqState = .ready) (hq : t.seqState = .ready)
    (ho : t.busOpen = s.busOpen) (hv : t.calValid = s.calValid) : LinkInv t := by
  have hlink := h.link
  rw [hs] at hlink
  exact linkInv_of_ready hq (ho.trans hlink.1) (hv.trans hlink.2)

/-- R108, R109, R205: what a sample read in flight at `p` has behind it. -/
structure ReadInv (p : SeqStep) (s : State) : Prop where
  tfine : p = .readP ∨ p = .readAlt → s.tvalid = true
  slp : p = .readAlt → s.slp ≠ 0
  ownT : p = .readT → s.tvalid = false
  ownP : p = .readP ∨ p = .readAlt → s.pvalid = false ∧ s.psent = false
  ownA : p = .readAlt → s.avalid = false

/-- R106: a position of INIT has no sample read in flight. -/
theorem readInv_of_no_sample {p : SeqStep} (s : State) (hp : p ∉ [SeqStep.readT, .readP, .readAlt]) :
    ReadInv p s := by
  constructor <;> simp_all

/-- R38, R201: the record of a completion with a listed code is legal, when its index obeys R38. -/
theorem legalRecord_completionRecord (w : Word) {idx code : Nat}
    (h : (code = 0x04 ∧ idx ≤ 11) ∨
      (code ∈ [0x00, 0x01, 0x02, 0x05, 0x06, 0x10, 0x11, 0x12, 0x13] ∧ idx = 0)) :
    LegalRecord (completionRecord w idx code) :=
  ⟨w.toNat % 256, idx, code, Nat.mod_lt _ (by decide), rfl, h⟩

/-- A command that completes leaves the invariant, if it leaves SEQ_STATE settled and a legal record. -/
theorem inv_completed {idx code : Nat} {s : State} (hl : LinkInv s) (hseq : seqAllowed .idle s.seqState)
    (hrec : LegalRecord (completionRecord s.cmdl idx code)) : Inv (completed s idx code) where
  busy_iff := by simp [completed]
  done_clear := by simp [completed]
  req := rfl
  seq := hseq
  link := hl.link
  epoch := hl.epoch
  tfine := by simp [completed]
  slp := by simp [completed]
  ownT := by simp [completed]
  ownP := by simp [completed]
  ownA := by simp [completed]
  record := hrec

/-- A completion without an index, by a code that is written (R203). -/
theorem inv_complete {c : Code} {s : State} (hl : LinkInv s) (hseq : seqAllowed .idle s.seqState)
    (hc : c ≠ .busWriteError) : Inv (complete c 0 s) := by
  have hrec := legalRecord_errWord (opcOf s.cmdl) 0 c hc (.inl rfl)
  rw [errWord_eq_completionRecord] at hrec
  rw [complete_eq_completed]
  exact inv_completed hl hseq hrec

/-- A running command that issues its position's transaction leaves the invariant. -/
theorem inv_issue {r : BusReq} {p : SeqStep} {s : State} (hbusy : s.busy = true) (hdone : s.done = false)
    (hr : awaitedReq p s.devAddr = some r) (hl : LinkInv s) (hseq : seqAllowed p s.seqState)
    (hrec : LegalRecord s.err) (hread : ReadInv p s) : Inv (issue r p s) where
  busy_iff := by
    have hp : p ≠ .idle := by rintro rfl; cases hr
    simp [hbusy, hp]
  done_clear := fun _ => hdone
  req := hr.symm
  seq := hseq
  link := hl.link
  epoch := hl.epoch
  tfine := hread.tfine
  slp := hread.slp
  ownT := hread.ownT
  ownP := hread.ownP
  ownA := hread.ownA
  record := hrec

theorem Inv.busy_of_running {s : State} (h : Inv s) (hp : s.seqStep ≠ .idle) :
    s.busy = true ∧ s.done = false :=
  have hb := h.busy_iff.mpr hp
  ⟨hb, h.done_clear hb⟩

theorem Inv.idle_of_not_busy {s : State} (h : Inv s) (hb : s.busy = false) : s.seqStep = .idle := by
  by_contra hp
  simp [h.busy_iff.mpr hp] at hb

theorem Inv.busreq_none_of_idle {s : State} (h : Inv s) (hp : s.seqStep = .idle) : s.busreq = none := by
  rw [h.req, hp]
  rfl

/-! ## Reset -/

theorem legalRecord_zero : LegalRecord 0 := ⟨0, 0, 0, by decide, rfl, .inr ⟨by decide, rfl⟩⟩

theorem inv_resetFrom (inputs : List Event) (busLog : List BusReq) (portData : Word) (d : Nat) :
    Inv (State.resetFrom inputs busLog portData d) where
  busy_iff := by simp [State.resetFrom]
  done_clear := fun _ => rfl
  req := rfl
  seq := .inl rfl
  link := ⟨rfl, rfl⟩
  epoch := by simp [State.resetFrom]
  tfine := by simp [State.resetFrom]
  slp := by simp [State.resetFrom]
  ownT := fun _ => rfl
  ownP := fun _ => ⟨rfl, rfl⟩
  ownA := fun _ => rfl
  record := legalRecord_zero

/-- Settles O28: the reset state is one that a reset leaves. -/
theorem invariantHoldsAtReset : Obligations.InvariantHoldsAtReset := inv_resetFrom [] [] 0 0

/-! ## The environment and the host -/

theorem regWrite_devAddr_unlocked {s : State} (v : Word) (h : devAddrLocked s = false) :
    regWrite .devAddr v s = { s with devAddr := v.setWidth 7 } := by
  simp [regWrite, h]

theorem regWrite_slp_idle {s : State} (v : Word) (h : s.busy = false) :
    regWrite .slp v s = { s with slp := v } := by
  simp [regWrite, h]

theorem regWrite_rawT_idle {s : State} (v : Word) (h : s.busy = false) :
    regWrite .rawT v s = { s with rawT := v.setWidth 20 } := by
  simp [regWrite, h]

theorem regWrite_rawP_idle {s : State} (v : Word) (h : s.busy = false) :
    regWrite .rawP v s = { s with rawP := v.setWidth 20 } := by
  simp [regWrite, h]

theorem regWrite_arg_idle {s : State} (v : Word) (h : s.busy = false) :
    regWrite .arg v s = { s with arg := v } := by
  simp [regWrite, h]

/-- R39: DEV_ADDR is unlocked only while the engine is idle and not READY. -/
theorem devAddrLocked_eq_false_iff (s : State) :
    devAddrLocked s = false ↔ s.busy = false ∧ s.seqState ≠ .ready := by
  simp [devAddrLocked]

theorem Inv.setInputs {s : State} (h : Inv s) (l : List Event) : Inv (setInputs l s) := { h with }

theorem Inv.hostRead {s : State} (h : Inv s) (off : Byte) : Inv (hostRead off s) := { h with }

theorem Inv.ignoreWrite {s : State} (h : Inv s) : Inv (ignoreWrite s) := { h with }

/-- R213: an acknowledgement can only lower DONE. -/
theorem Inv.ackStatus {s : State} (h : Inv s) (v : Word) : Inv (ackStatus v s) :=
  { h with done_clear := fun hb => by simp [h.done_clear hb] }

/-- R104: a command accepted while idle waits at DECODE with no transaction. -/
theorem Inv.accept {s : State} (h : Inv s) (w : Word) (hb : s.busy = false) : Inv (accept w s) := by
  have hidle := h.idle_of_not_busy hb
  have hseq := h.seq
  rw [hidle] at hseq
  exact { h with
    busy_iff := by simp
    done_clear := fun _ => rfl
    req := h.busreq_none_of_idle hidle
    seq := hseq
    tfine := by simp
    slp := by simp
    ownT := by simp
    ownP := by simp
    ownA := by simp }

/-- R39–R42, R48: the operand registers enter the invariant only while a command runs. -/
theorem Inv.regWrite {s : State} (h : Inv s) (r : HostReg) (v : Word) : Inv (regWrite r v s) := by
  cases hr : refusesWrite r s with
  | true => rw [regWrite_of_refused v hr]; exact h.ignoreWrite
  | false =>
    cases r
    case ctrl => exact { h with }
    case cmd => rw [regWrite_cmd_idle v hr]; exact h.accept v hr
    case status => exact h.ackStatus v
    case devAddr =>
      have hidle := h.idle_of_not_busy ((devAddrLocked_eq_false_iff s).mp hr).1
      rw [regWrite_devAddr_unlocked v hr]
      exact { h with req := by simp [h.busreq_none_of_idle hidle, hidle, awaitedReq] }
    case slp =>
      rw [regWrite_slp_idle v hr]
      exact { h with slp := fun hp => by simp [h.idle_of_not_busy hr] at hp }
    case rawT => rw [regWrite_rawT_idle v hr]; exact { h with }
    case rawP => rw [regWrite_rawP_idle v hr]; exact { h with }
    case arg => rw [regWrite_arg_idle v hr]; exact { h with }
    all_goals exact h

theorem Inv.hostWrite {s : State} (h : Inv s) (off : Byte) (v : Word) : Inv (hostWrite off v s) := by
  unfold Machine.hostWrite
  split
  · exact h.regWrite _ v
  · exact h

/-! ## The DECODE step -/

/-- R31–R36, R106: the clears at DECODE only lower bits. -/
theorem LinkInv.clearedAtDecode {s : State} (h : LinkInv s) (i : Instr) :
    LinkInv (clearedAtDecode i s) := by
  have hepoch := h.epoch
  cases i
  case nop => exact h
  case init => exact ⟨⟨rfl, rfl⟩, by simp [Machine.clearedAtDecode]⟩
  all_goals
    refine ⟨h.link, fun hb => hepoch ?_⟩
    simp only [Machine.clearedAtDecode, clearT, clearP, clearPA, clearP32, clearA, clearR,
      Bool.or_eq_true] at hb ⊢
    tauto

/-- INIT passes every check (R106). -/
theorem ne_init_of_failure {i : Instr} {s : State} {code : Nat} (h : firstFailure i s = some code) :
    i ≠ .init := by
  rintro rfl
  simp [firstFailure_init] at h

/-- R205, R210: a command that fails a check keeps the invariant. -/
theorem Inv.failure {i : Instr} {s : State} {code : Nat} (h : Inv s) (hs : s.seqStep = .decode)
    (hf : firstFailure i s = some code) : Inv (completed (clearedAtDecode i s) 0 code) := by
  have hseq : seqAllowed .idle s.seqState := by simpa [seqAllowed, hs] using h.seq
  have hcode : code ∈ [0x00, 0x01, 0x02, 0x05, 0x06, 0x10, 0x11, 0x12, 0x13] :=
    (by decide : [0x06, 0x11, 0x12, 0x13] ⊆ [0x00, 0x01, 0x02, 0x05, 0x06, 0x10, 0x11, 0x12, 0x13])
      (firstFailure_code hf)
  refine inv_completed (h.linkInv.clearedAtDecode i) ?_
    (legalRecord_completionRecord _ (.inr ⟨hcode, rfl⟩))
  rwa [clearedAtDecode_seqState (ne_init_of_failure hf)]

/-- A stage that runs in READY and touches neither SEQ_STATE nor the link, then completes. -/
theorem inv_complete_of_ready {s t : State} (h : LinkInv s) (hs : s.seqState = .ready)
    (hq : t.seqState = .ready) (ho : t.busOpen = s.busOpen) (hv : t.calValid = s.calValid) :
    Inv (complete .none 0 t) :=
  inv_complete (h.of_ready hs hq ho hv) (.inr (.inl hq)) (by decide)

/-- R104: a command that passes its checks keeps the invariant. -/
theorem Inv.passed {i : Instr} {s : State} (h : Inv s) (hs : s.seqStep = .decode)
    (hf : firstFailure i s = none) : Inv (afterChecks i (clearedAtDecode i s)) := by
  have hseq : seqAllowed .idle s.seqState := by simpa [seqAllowed, hs] using h.seq
  obtain ⟨hbusy, hdone⟩ := h.busy_of_running (by simp [hs])
  have hl := h.linkInv.clearedAtDecode i
  cases i
  case nop => exact inv_complete hl hseq (by decide)
  case log2 | exp2 => exact inv_complete ⟨hl.link, hl.epoch⟩ hseq (by decide)
  case init =>
    exact inv_issue hbusy hdone rfl hl rfl h.record (readInv_of_no_sample _ (by simp))
  case readT =>
    exact inv_issue hbusy hdone rfl hl (ready_of_passed (by decide) hf) h.record
      ⟨by simp, by simp, fun _ => rfl, by simp, by simp⟩
  case readP =>
    have ht := tvalid_of_passed (by decide) hf
    exact inv_issue hbusy hdone rfl hl (ready_of_passed (by decide) hf) h.record
      ⟨fun _ => ht, by simp, by simp, fun _ => ⟨rfl, rfl⟩, by simp⟩
  case readAlt =>
    have ht := tvalid_of_passed (by decide) hf
    have hslp : s.slp ≠ 0 := slp_of_passed hf
    exact inv_issue hbusy hdone rfl hl (ready_of_passed (by decide) hf) h.record
      ⟨fun _ => ht, fun _ => hslp, by simp, fun _ => ⟨rfl, rfl⟩, fun _ => rfl⟩
  case compT | compP | compP32 | alt =>
    have hq := ready_of_passed (by decide) hf
    exact inv_complete_of_ready hl hq hq rfl rfl

theorem Inv.engineTurn {s t : State} (h : Inv s) (ht : engineTurn s = .next t) : Inv t := by
  rcases engineTurn_cases ht with ⟨-, rfl⟩ | ⟨hs, -, rfl⟩ | ⟨hs, i, -, hx⟩
  · exact h
  · exact inv_complete h.linkInv (by simpa [seqAllowed, hs] using h.seq) (by decide)
  · rcases exec_cases hx with ⟨code, hf, rfl⟩ | ⟨hf, rfl⟩
    · exact h.failure hs hf
    · exact h.passed hs hf

/-! ## The steps that consume an answer -/

/-- R54, R101: under the invariant the position alone picks the step that consumes an answer. -/
theorem Inv.consumeAnswer_eq {s : State} (h : Inv s) (a : BusAnswer) :
    consumeAnswer a s = afterAnswer s.seqStep a s := by
  cases hr : s.busreq with
  | some r => exact consumeAnswer_awaited a (by simp [hr])
  | none =>
    have hreq := h.req
    rw [hr] at hreq
    rw [consumeAnswer_discarded a hr]
    cases hp : s.seqStep <;> simp [hp, awaitedReq] at hreq <;> rfl

/-- R106: INIT fails with a legal record, outside READY, with CAL_VALID only if the bus is open. -/
theorem inv_initFail {s : State} {c : Code} {idx : BitVec 4} (hlink : s.calValid = true → s.busOpen = true)
    (hepoch : (s.tvalid || s.pvalid || s.p32valid || s.avalid || s.psent) = false)
    (hrec : LegalRecord (errWord (opcOf s.cmdl) idx c)) : Inv (initFail c idx s) := by
  rw [errWord_eq_completionRecord] at hrec
  rw [initFail, complete_eq_completed]
  exact inv_completed ⟨hlink, by simp [hepoch]⟩ (.inr (.inr rfl)) hrec

/-- R28, R31–R36: outside READY none of the epoch's bits is set. -/
theorem LinkInv.epoch_clear {s : State} (h : LinkInv s) (hq : s.seqState ≠ .ready) :
    (s.tvalid || s.pvalid || s.p32valid || s.avalid || s.psent) = false := by
  rw [← Bool.not_eq_true]
  exact mt h.epoch hq

/-- R28–R30: what SEQ_STATE, BUS_OPEN and CAL_VALID are while INIT waits for OPEN. -/
theorem Inv.link_of_initOpen {s : State} (h : Inv s) (hp : s.seqStep = .initOpen) :
    s.seqState = .uninit ∧ s.busOpen = false ∧ s.calValid = false := by
  have hq : s.seqState = .uninit := by simpa [seqAllowed, hp] using h.seq
  have hlink := h.link
  rw [hq] at hlink
  exact ⟨hq, hlink⟩

/-- R28–R30: what they are while INIT waits for a calibration read. -/
theorem Inv.link_of_initRead {s : State} {i : Fin 12} (h : Inv s) (hp : s.seqStep = .initRead i) :
    s.seqState = .busOpen ∧ s.busOpen = true ∧ s.calValid = false := by
  have hq : s.seqState = .busOpen := by simpa [seqAllowed, hp] using h.seq
  have hlink := h.link
  rw [hq] at hlink
  exact ⟨hq, hlink⟩

/-- R28–R30: what they are while INIT waits for its mode write. -/
theorem Inv.link_of_initWrite {s : State} (h : Inv s) (hp : s.seqStep = .initWrite) :
    s.seqState = .calibrated ∧ s.busOpen = true ∧ s.calValid = true := by
  have hq : s.seqState = .calibrated := by simpa [seqAllowed, hp] using h.seq
  have hlink := h.link
  rw [hq] at hlink
  exact ⟨hq, hlink⟩

theorem Inv.afterOpen {s : State} (h : Inv s) (hp : s.seqStep = .initOpen) (a : BusAnswer) :
    Inv (afterOpen a s) := by
  obtain ⟨hq, -, hv⟩ := h.link_of_initOpen hp
  have hepoch := h.linkInv.epoch_clear (by simp [hq])
  obtain ⟨hbusy, hdone⟩ := h.busy_of_running (by simp [hp])
  cases a with
  | fail => exact inv_initFail (by simp [hv]) hepoch (legalRecord_errWord _ _ _ (by decide) (.inl rfl))
  | ok b0 b1 b2 =>
    exact inv_issue hbusy hdone rfl ⟨⟨rfl, hv⟩, by simp [hepoch]⟩ rfl h.record
      (readInv_of_no_sample _ (by simp))

theorem Inv.afterCalRead {s : State} {i : Fin 12} (h : Inv s) (hp : s.seqStep = .initRead i)
    (a : BusAnswer) : Inv (afterCalRead i a s) := by
  obtain ⟨hq, ho, hv⟩ := h.link_of_initRead hp
  have hepoch := h.linkInv.epoch_clear (by simp [hq])
  obtain ⟨hbusy, hdone⟩ := h.busy_of_running (by simp [hp])
  cases a with
  | fail =>
    have hidx : (BitVec.ofNat 4 i.val).toNat ≤ 11 := by
      rw [BitVec.toNat_ofNat]
      omega
    exact inv_initFail (by simp [hv]) hepoch
      (legalRecord_errWord _ _ _ (by decide) (.inr ⟨rfl, hidx⟩))
  | ok b0 b1 b2 =>
    simp only [Machine.afterCalRead]
    split
    · exact inv_issue hbusy hdone rfl ⟨h.link, h.epoch⟩ hq h.record
        (readInv_of_no_sample _ (by simp))
    · exact inv_issue hbusy hdone rfl ⟨⟨ho, rfl⟩, by simp [hepoch]⟩ rfl h.record
        (readInv_of_no_sample _ (by simp))

theorem Inv.afterModeWrite {s : State} (h : Inv s) (hp : s.seqStep = .initWrite) (a : BusAnswer) :
    Inv (afterModeWrite a s) := by
  obtain ⟨hq, ho, hv⟩ := h.link_of_initWrite hp
  cases a with
  | fail =>
    exact inv_initFail (fun _ => ho) (h.linkInv.epoch_clear (by simp [hq]))
      (legalRecord_errWord _ _ _ (by decide) (.inl rfl))
  | ok b0 b1 b2 =>
    exact inv_complete (linkInv_of_ready rfl ho hv) (.inr (.inl rfl)) (by decide)

/-- R107–R109: the answer of a sample read completes in READY, after the stages of an ok answer. -/
theorem Inv.afterSample {s : State} (h : Inv s) (hq : s.seqState = .ready) (a : BusAnswer) :
    Inv (afterReadT a s) ∧ Inv (afterReadP a s) ∧ Inv (afterReadAlt a s) := by
  cases a with
  | fail =>
    have hfail : Inv (complete .busReadError 0 s) :=
      inv_complete h.linkInv (.inr (.inl hq)) (by decide)
    exact ⟨hfail, hfail, hfail⟩
  | ok b0 b1 b2 =>
    exact ⟨inv_complete_of_ready h.linkInv hq hq rfl rfl, inv_complete_of_ready h.linkInv hq hq rfl rfl,
      inv_complete_of_ready h.linkInv hq hq rfl rfl⟩

theorem Inv.consumeAnswer {s : State} (h : Inv s) (a : BusAnswer) : Inv (consumeAnswer a s) := by
  rw [h.consumeAnswer_eq]
  have hseq := h.seq
  cases hp : s.seqStep <;> rw [hp] at hseq
  case idle | decode => exact h
  case initOpen => exact h.afterOpen hp a
  case initRead i => exact h.afterCalRead hp a
  case initWrite => exact h.afterModeWrite hp a
  case readT | readP | readAlt =>
    obtain ⟨hreadT, hreadP, hreadAlt⟩ := h.afterSample hseq a
    assumption

/-- Settles O29: by the event of the step, each of which keeps the invariant. -/
theorem stepKeepsTheInvariant : Obligations.StepKeepsTheInvariant := by
  intro s t h ht
  have hu : Inv (setInputs s.inputs.tail s) := h.setInputs _
  rcases step_event_cases ht with ⟨-, hx⟩ | ⟨a, -, rfl⟩ | ⟨a, -, rfl⟩ | ⟨off, -, rfl⟩ |
    ⟨off, v, -, rfl⟩ | ⟨-, rfl⟩
  · exact hu.engineTurn hx
  · exact hu.consumeAnswer a
  · exact hu
  · exact hu.hostRead off
  · exact hu.hostWrite off v
  · exact inv_resetFrom _ _ _ _

end Sys2Proof.Machine
end

section
/-! PROOFS. The fine temperature of 41_compensation.md section 2: its formula, its range, and that every step
keeps T_FINE in that range with TEMP beside it. -/

namespace Sys2Proof.Machine

/-! ## The formula and its range -/

/-- R141 with its shifts as floor divisions. -/
theorem compT_eq (raw : Raw) (t1 t2 t3 : Half) :
    compT raw t1 t2 t3 =
      ((u20 raw / 8 - u16 t1 * 2) * s16 t2) / 2048 +
      (((u20 raw / 16 - u16 t1) * (u20 raw / 16 - u16 t1)) / 4096 * s16 t3) / 16384 := by
  simp only [compT, sra_eq_div, shl]
  norm_num

/-- R141: the linear term of the fine temperature. -/
theorem compT_linear_bounds {a t : Int} (ha : -131070 ≤ a ∧ a ≤ 131071) (ht : -32768 ≤ t ∧ t ≤ 32767) :
    -2097136 ≤ a * t / 2048 ∧ a * t / 2048 ≤ 2097120 := by
  have hlo : -(131071 * 32768) ≤ a * t := by nlinarith
  have hhi : a * t ≤ 131070 * 32768 := by nlinarith
  omega

/-- R141: the square in the quadratic term. -/
theorem compT_square_bounds {d : Int} (hd : -65535 ≤ d ∧ d ≤ 65535) :
    0 ≤ d * d / 4096 ∧ d * d / 4096 ≤ 1048544 := by
  have hlo : 0 ≤ d * d := mul_self_nonneg d
  have hhi : d * d ≤ 65535 * 65535 := by nlinarith
  omega

/-- R141: the quadratic term of the fine temperature. -/
theorem compT_quadratic_bounds {q t : Int} (hq : 0 ≤ q ∧ q ≤ 1048544) (ht : -32768 ≤ t ∧ t ≤ 32767) :
    -2097088 ≤ q * t / 16384 ∧ q * t / 16384 ≤ 2097024 := by
  have hlo : -(1048544 * 32768) ≤ q * t := by nlinarith
  have hhi : q * t ≤ 1048544 * 32767 := by nlinarith
  omega

/-- 41_compensation.md section 5: the range of the fine temperature. -/
theorem compT_bounds (raw : Raw) (t1 t2 t3 : Half) :
    -4194224 ≤ compT raw t1 t2 t3 ∧ compT raw t1 t2 t3 ≤ 4194144 := by
  have hraw := u20_bounds raw
  have ht1 := u16_bounds t1
  have hlinear := compT_linear_bounds (a := u20 raw / 8 - u16 t1 * 2) (by omega) (s16_bounds t2)
  have hsquare := compT_square_bounds (d := u20 raw / 16 - u16 t1) (by omega)
  have hquadratic := compT_quadratic_bounds hsquare (s16_bounds t3)
  rw [compT_eq]
  omega

/-- Settles O43: the formula with its operands written out, and the range of its two terms. -/
theorem fineTemperatureFormulaAndRange : Obligations.FineTemperatureFormulaAndRange :=
  fun raw t1 t2 t3 => ⟨compT_eq raw t1 t2 t3, compT_bounds raw t1 t2 t3⟩

/-! ## T_FINE and TEMP agree -/

theorem tempInv_resetFrom (inputs : List Event) (busLog : List BusReq) (portData : Word) (d : Nat) :
    TempInv (State.resetFrom inputs busLog portData d) where
  low := (by decide : -4194224 ≤ (0 : Word).toInt)
  high := (by decide : (0 : Word).toInt ≤ 4194144)
  temp := (by decide : (0 : Word).toInt = ((0 : Word).toInt * 5 + 128) / 256)

/-- Settles O30: the reset state is one that a reset leaves. -/
theorem temperatureAgreesAtReset : Obligations.TemperatureAgreesAtReset := tempInv_resetFrom [] [] 0 0

/-- A step that keeps T_FINE and TEMP keeps their agreement. -/
theorem TempInv.of_eq {s t : State} (h : TempInv s) (hf : t.tFine = s.tFine) (ht : t.temp = s.temp) :
    TempInv t :=
  ⟨hf ▸ h.low, hf ▸ h.high, by rw [hf, ht, h.temp]⟩

/-- An integer in the s32 range is stored as it is. -/
theorem toInt_ofInt_of_range {v : Int} (h : -2 ^ 31 ≤ v ∧ v < 2 ^ 31) : (BitVec.ofInt 32 v).toInt = v := by
  rw [← wrapS32_eq_toInt, wrapS32_of_range h.1 h.2]

/-- R143: the temperature stage establishes the agreement. -/
theorem tempInv_temperatureStage (s : State) : TempInv (temperatureStage s) := by
  have hb := compT_bounds s.rawT s.cal.t1 s.cal.t2 s.cal.t3
  have hf := toInt_ofInt_of_range (v := compT s.rawT s.cal.t1 s.cal.t2 s.cal.t3) (by omega)
  refine ⟨?_, ?_, ?_⟩
  · rw [temperatureStage_tFine, hf]; exact hb.1
  · rw [temperatureStage_tFine, hf]; exact hb.2
  · rw [temperatureStage_tFine, temperatureStage_temp, hf, temp100_eq, toInt_ofInt_of_range (by omega)]

/-- R55: at DECODE only COMP_T writes T_FINE and TEMP. -/
theorem TempInv.exec {i : Instr} {s t : State} (h : TempInv s) (hx : exec i s = .next t) : TempInv t := by
  rcases exec_cases hx with ⟨code, -, rfl⟩ | ⟨-, rfl⟩
  · cases i <;> exact h.of_eq rfl rfl
  · cases i
    case compT => exact (tempInv_temperatureStage _).of_eq rfl rfl
    all_goals exact h.of_eq rfl rfl

theorem TempInv.engineTurn {s t : State} (h : TempInv s) (ht : engineTurn s = .next t) : TempInv t := by
  rcases engineTurn_cases ht with ⟨-, rfl⟩ | ⟨-, -, rfl⟩ | ⟨-, i, -, hx⟩
  · exact h
  · exact h.of_eq rfl rfl
  · exact h.exec hx

/-- R55: of the steps that consume an answer only READ_T's writes T_FINE and TEMP. -/
theorem TempInv.afterAnswer {s : State} (h : TempInv s) (p : SeqStep) (a : BusAnswer) :
    TempInv (afterAnswer p a s) := by
  cases a with
  | fail => cases p <;> exact h.of_eq rfl rfl
  | ok b0 b1 b2 =>
    cases p
    case readT => exact (tempInv_temperatureStage _).of_eq rfl rfl
    case initRead i =>
      simp only [Machine.afterAnswer, afterCalRead]
      split <;> exact h.of_eq rfl rfl
    all_goals exact h.of_eq rfl rfl

/-- R55: only the engine and reset write T_FINE and TEMP. -/
theorem TempInv.of_engineKept {s t : State} (h : TempInv s) (hk : EngineKept s t) : TempInv t :=
  h.of_eq hk.tFine hk.temp

theorem TempInv.consumeAnswer {s : State} (h : TempInv s) (a : BusAnswer) :
    TempInv (consumeAnswer a s) := by
  cases hr : s.busreq with
  | none => rw [consumeAnswer_discarded a hr]; exact h
  | some r => rw [consumeAnswer_awaited a (by simp [hr])]; exact h.afterAnswer _ a

/-- Settles O31: by who acts in the step; only the temperature stage writes the two registers. -/
theorem stepKeepsTemperatureAgreement : Obligations.StepKeepsTemperatureAgreement := by
  intro s t h ht
  have hu : TempInv (setInputs s.inputs.tail s) := h.of_eq rfl rfl
  rcases step_actor_cases ht with ⟨-, hx⟩ | ⟨a, -, rfl⟩ | ⟨-, rfl⟩ | ⟨e, -, -, -, hk⟩
  · exact hu.engineTurn hx
  · exact hu.consumeAnswer a
  · exact tempInv_resetFrom _ _ _ _
  · exact h.of_engineKept hk

end Sys2Proof.Machine
end

section
/-! PROOFS. What every step of the machine respects: an unanswered transaction, the transition table, the
fixed sensor accesses, the host's operands and the calibration table as a whole. -/

namespace Sys2Proof.Machine

/-! ## An unanswered transaction -/

/-- R101, R248: what a command waiting for an answer keeps. -/
structure WaitKept (s t : State) : Prop where
  busreq : t.busreq = s.busreq
  busy : t.busy = s.busy
  seqStep : t.seqStep = s.seqStep
  busLog : t.busLog = s.busLog
  seqState : t.seqState = s.seqState
  devAddr : t.devAddr = s.devAddr
  slp : t.slp = s.slp
  cmdl : t.cmdl = s.cmdl
  data : sameData s t

theorem sameData.refl (s : State) : sameData s s := by simp [sameData]

theorem sameData.trans {s t u : State} (h : sameData s t) (h' : sameData t u) : sameData s u := by
  simp_all [sameData]

theorem WaitKept.refl (s : State) : WaitKept s s := by
  refine ⟨?_, ?_, ?_, ?_, ?_, ?_, ?_, ?_, sameData.refl s⟩ <;> rfl

theorem WaitKept.trans {s t u : State} (h : WaitKept s t) (h' : WaitKept t u) : WaitKept s u where
  busreq := h'.busreq.trans h.busreq
  busy := h'.busy.trans h.busy
  seqStep := h'.seqStep.trans h.seqStep
  busLog := h'.busLog.trans h.busLog
  seqState := h'.seqState.trans h.seqState
  devAddr := h'.devAddr.trans h.devAddr
  slp := h'.slp.trans h.slp
  cmdl := h'.cmdl.trans h.cmdl
  data := h.data.trans h'.data

/-- R27: while BUSY a host write is ignored, or goes to CTRL, STATUS or a read-only register. -/
theorem regWrite_waitKept {s : State} (hb : s.busy = true) (r : HostReg) (v : Word) :
    WaitKept s (regWrite r v s) ∧ (regWrite r v s).inputs = s.inputs := by
  have hkept := WaitKept.refl s
  cases hr : refusesWrite r s with
  | true => rw [regWrite_of_refused v hr]; exact ⟨{ hkept with }, rfl⟩
  | false =>
    cases r
    case ctrl | status => exact ⟨{ hkept with }, rfl⟩
    case cmd | devAddr | slp | rawT | rawP | arg => simp [refusesWrite, devAddrLocked, hb] at hr
    all_goals exact ⟨hkept, rfl⟩

theorem hostWrite_waitKept {s : State} (hb : s.busy = true) (off : Byte) (v : Word) :
    WaitKept s (hostWrite off v s) ∧ (hostWrite off v s).inputs = s.inputs := by
  unfold hostWrite
  split
  · exact regWrite_waitKept hb _ v
  · exact ⟨.refl s, rfl⟩

/-- R101, R248: one step of a command whose transaction is not answered. -/
theorem step_waitKept {s t : State} (h : step s = .next t) (hb : s.busy = true)
    (hp : s.seqStep ≠ .decode) (hin : ∀ e ∈ s.inputs, noAnswer e = true) :
    WaitKept s t ∧ t.inputs = s.inputs.tail := by
  have hkept := WaitKept.refl s
  have hhead : ∀ e, s.inputs.head? = some e → noAnswer e = true :=
    fun e he => hin e (List.mem_of_head? he)
  rcases step_event_cases h with ⟨-, hx⟩ | ⟨a, hi, -⟩ | ⟨a, -, rfl⟩ | ⟨off, -, rfl⟩ |
    ⟨off, v, -, rfl⟩ | ⟨hi, -⟩
  · rw [engineTurn_stays (by exact hp)] at hx
    cases hx
    exact ⟨{ hkept with }, rfl⟩
  · exact absurd (hhead _ hi) (by simp [noAnswer])
  · exact ⟨{ hkept with }, rfl⟩
  · exact ⟨{ hkept with }, rfl⟩
  · obtain ⟨hw, hi⟩ := hostWrite_waitKept (s := setInputs s.inputs.tail s) hb off v
    exact ⟨{ hw with }, hi⟩
  · exact absurd (hhead _ hi) (by simp [noAnswer])

/-- R101, R248: any number of such steps. -/
theorem run_waitKept (n : Nat) : ∀ s : State, s.busy = true → s.seqStep ≠ .decode →
    (∀ e ∈ s.inputs, noAnswer e = true) → ∃ t, Host.Core.run core n s = .next t ∧ WaitKept s t := by
  induction n with
  | zero => exact fun s _ _ _ => ⟨s, rfl, .refl s⟩
  | succ n ih =>
    intro s hb hp hin
    obtain ⟨u, hu⟩ := step_next s
    obtain ⟨hk, hi⟩ := step_waitKept hu hb hp hin
    obtain ⟨t, ht, hk'⟩ := ih u (hk.busy.trans hb) (hk.seqStep ▸ hp)
      (fun e he => hin e (List.mem_of_mem_tail (hi ▸ he)))
    exact ⟨t, (run_succ n hu).trans ht, hk.trans hk'⟩

/-- Settles O34: by induction on the number of steps, each of which keeps what the command waits with. -/
theorem unansweredTransactionWaitsForEver : Obligations.UnansweredTransactionWaitsForEver := by
  intro n s r hr hb hp hin
  obtain ⟨t, ht, hk⟩ := run_waitKept n s hb hp hin
  exact ⟨t, ht, hk.busreq.trans hr, hk.busy.trans hb, hk.seqStep, hk.busLog, hk.seqState, hk.devAddr,
    hk.slp, hk.cmdl, hk.data⟩

/-! ## SEQ_STATE -/

/-- R28, R111: at DECODE only INIT moves SEQ_STATE, to UNINIT. -/
theorem exec_seqState {i : Instr} {s t : State} (h : exec i s = .next t) :
    t.seqState = if i = .init then .uninit else s.seqState := by
  rcases exec_cases h with ⟨code, hf, rfl⟩ | ⟨-, rfl⟩
  · rw [if_neg (ne_init_of_failure hf)]
    exact clearedAtDecode_seqState (ne_init_of_failure hf) s
  · cases i <;> rfl

/-- R111: the engine's turn moves SEQ_STATE only by INIT's word. -/
theorem engineTurn_seqState {s t : State} (h : engineTurn s = .next t) :
    t.seqState = if s.seqStep = .decode ∧ s.cmdl = 0x00000001 then .uninit else s.seqState := by
  rcases engineTurn_cases h with ⟨hs, rfl⟩ | ⟨-, ⟨e, he⟩, rfl⟩ | ⟨hs, i, hi, hx⟩
  · simp [hs]
  · have hw : s.cmdl ≠ encode .init := fun hw => by simp [hw] at he
    exact (if_neg fun hc => hw hc.2).symm
  · have hword : s.cmdl = 0x00000001 ↔ i = .init := by
      rw [hi]
      cases i <;> decide
    simp only [exec_seqState hx, hs, hword, true_and]

/-- R111: SEQ_STATE after the answer to the transaction that `p` waits for. -/
def seqAfterAnswer (p : SeqStep) (a : BusAnswer) (q : SeqState) : SeqState :=
  match p with
  | .initOpen => if a = .fail then .failed else .busOpen
  | .initRead i => if a = .fail then .failed else if i = 11 then .calibrated else q
  | .initWrite => if a = .fail then .failed else .ready
  | .idle | .decode | .readT | .readP | .readAlt => q

theorem afterAnswer_seqState (p : SeqStep) (a : BusAnswer) (s : State) :
    (afterAnswer p a s).seqState = seqAfterAnswer p a s.seqState := by
  cases p
  case initRead i =>
    cases a with
    | fail => rfl
    | ok b0 b1 b2 =>
      simp only [afterAnswer, afterCalRead, seqAfterAnswer]
      split
      · rw [if_neg (by simp), if_neg (by omega)]; rfl
      · rw [if_neg (by simp), if_pos (by omega)]; rfl
  all_goals cases a <;> rfl

theorem seqAfter_engine {s : State} (h : s.inputs = [] ∨ s.inputs.head? = some .engine) :
    seqAfter s = if s.seqStep = .decode ∧ s.cmdl = 0x00000001 then .uninit else s.seqState := by
  unfold seqAfter
  rcases h with h | h
  · rw [h]
  · obtain ⟨rest, h⟩ := List.head?_eq_some_iff.mp h
    rw [h]

theorem seqAfter_answer {s : State} {a : BusAnswer} (h : s.inputs.head? = some (.answer a)) :
    seqAfter s = seqAfterAnswer s.seqStep a s.seqState := by
  obtain ⟨rest, h⟩ := List.head?_eq_some_iff.mp h
  unfold seqAfter
  rw [h]
  cases s.seqStep <;> cases a <;> rfl

theorem seqAfter_environment {s : State} {e : Event} (h : s.inputs.head? = some e)
    (hn : noAnswer e = true) (he : e ≠ .engine) : seqAfter s = s.seqState := by
  obtain ⟨rest, h⟩ := List.head?_eq_some_iff.mp h
  unfold seqAfter
  rw [h]
  cases e
  case answer | reset => cases hn
  case engine => exact absurd rfl he
  all_goals rfl

theorem seqAfter_reset {s : State} (h : s.inputs.head? = some .reset) : seqAfter s = .uninit := by
  obtain ⟨rest, h⟩ := List.head?_eq_some_iff.mp h
  unfold seqAfter
  rw [h]

/-- Settles O32: by who acts in the step, each of which follows its row of the table. -/
theorem sequencerFollowsItsTable : Obligations.SequencerFollowsItsTable := by
  intro s t h ht
  have hu : Inv (setInputs s.inputs.tail s) := h.setInputs _
  rcases step_actor_cases ht with ⟨hi, hx⟩ | ⟨a, hi, rfl⟩ | ⟨hi, rfl⟩ | ⟨e, hi, hn, he, hk⟩
  · rw [engineTurn_seqState hx, seqAfter_engine hi]
    rfl
  · rw [hu.consumeAnswer_eq, afterAnswer_seqState, seqAfter_answer hi]
    rfl
  · rw [seqAfter_reset hi]
    rfl
  · rw [hk.seqState, seqAfter_environment hi hn he]

/-! ## The sensor bus -/

/-- A state that issued the transaction `r` it now waits for, after `s`. -/
def Issued (r : BusReq) (s t : State) : Prop := t.busLog = r :: s.busLog ∧ t.busreq = some r

/-- R65, R103: at DECODE a command issues nothing, or its one transaction to DEV_ADDR. -/
theorem exec_bus {i : Instr} {s t : State} (h : exec i s = .next t) :
    t.busLog = s.busLog ∨ ∃ r, Issued r s t ∧ AllowedReq s.devAddr r := by
  rcases exec_cases h with ⟨code, -, rfl⟩ | ⟨-, rfl⟩
  · exact .inl (clearedAtDecode_busLog i s)
  · cases i
    case init => exact .inr ⟨_, ⟨rfl, rfl⟩, .inl rfl⟩
    case readT => exact .inr ⟨_, ⟨rfl, rfl⟩, .inr (.inr (.inr (.inr rfl)))⟩
    case readP | readAlt => exact .inr ⟨_, ⟨rfl, rfl⟩, .inr (.inr (.inr (.inl rfl)))⟩
    all_goals exact .inl rfl

theorem engineTurn_bus {s t : State} (h : engineTurn s = .next t) :
    t.busLog = s.busLog ∨ s.seqStep = .decode ∧ ∃ r, Issued r s t ∧ AllowedReq s.devAddr r := by
  rcases engineTurn_cases h with ⟨-, rfl⟩ | ⟨-, -, rfl⟩ | ⟨hs, i, -, hx⟩
  · exact .inl rfl
  · exact .inl rfl
  · exact (exec_bus hx).imp_right fun hr => ⟨hs, hr⟩

/-- R65, R106: an answer leads to no transaction, or to INIT's next one. -/
theorem afterAnswer_bus (p : SeqStep) (a : BusAnswer) (s : State) :
    (afterAnswer p a s).busLog = s.busLog ∨
      ∃ r, Issued r s (afterAnswer p a s) ∧ AllowedReq s.devAddr r := by
  cases a with
  | fail => cases p <;> exact .inl rfl
  | ok b0 b1 b2 =>
    cases p
    case initOpen => exact .inr ⟨_, ⟨rfl, rfl⟩, .inr (.inl ⟨0, rfl⟩)⟩
    case initRead i =>
      simp only [afterAnswer, afterCalRead]
      split
      · exact .inr ⟨_, ⟨rfl, rfl⟩, .inr (.inl ⟨_, rfl⟩)⟩
      · exact .inr ⟨_, ⟨rfl, rfl⟩, .inr (.inr (.inl rfl))⟩
    all_goals exact .inl rfl

/-- Settles O33: only DECODE and the steps of INIT that consume an answer issue a transaction. -/
theorem busTrafficIsTheFixedMap : Obligations.BusTrafficIsTheFixedMap := by
  intro s t h ht
  have hu : Inv (setInputs s.inputs.tail s) := h.setInputs _
  rcases step_actor_cases ht with ⟨-, hx⟩ | ⟨a, hi, rfl⟩ | ⟨-, rfl⟩ | ⟨e, -, -, -, hk⟩
  · refine (engineTurn_bus hx).imp id fun ⟨hs, r, ⟨hlog, hreq⟩, hr⟩ => ⟨r, hlog, hreq, hr, .inl ?_⟩
    have hdecode : s.seqStep = .decode := hs
    rw [h.req, hdecode]
    rfl
  · rw [hu.consumeAnswer_eq]
    exact (afterAnswer_bus _ a _).imp id fun ⟨r, ⟨hlog, hreq⟩, hr⟩ => ⟨r, hlog, hreq, hr, .inr ⟨a, hi⟩⟩
  · exact .inl rfl
  · exact .inl hk.busLog

/-! ## The host's operands -/

/-- R39, R40, R48, R55: what a host write must be to change one of the host's own registers. -/
theorem regWrite_operands (r : HostReg) (v : Word) (s : State) :
    ((regWrite r v s).ie ≠ s.ie → r = .ctrl) ∧
    ((regWrite r v s).devAddr ≠ s.devAddr → devAddrLocked s = false ∧ r = .devAddr) ∧
    ((regWrite r v s).slp ≠ s.slp → s.busy = false ∧ r = .slp) ∧
    ((regWrite r v s).arg ≠ s.arg → s.busy = false ∧ r = .arg) := by
  cases hr : refusesWrite r s with
  | true => simp [regWrite_of_refused v hr]
  | false =>
    cases r <;> simp_all [refusesWrite, regWrite]

/-- R55: an event other than a host write and a reset keeps the host's own registers. -/
theorem step_operands_kept {s t : State} (h : step s = .next t) (hr : s.inputs.head? ≠ some .reset) :
    (∃ off v, s.inputs.head? = some (.hostWrite off v) ∧
      t = hostWrite off v (setInputs s.inputs.tail s)) ∨
    (t.ie = s.ie ∧ t.devAddr = s.devAddr ∧ t.slp = s.slp ∧ t.arg = s.arg) := by
  rcases step_event_cases h with ⟨-, hx⟩ | ⟨a, -, rfl⟩ | ⟨a, -, rfl⟩ | ⟨off, -, rfl⟩ |
    ⟨off, v, hi, rfl⟩ | ⟨hi, -⟩
  · have hk := engineTurn_hostKept hx
    exact .inr ⟨hk.ie, hk.devAddr, hk.slp, hk.arg⟩
  · have hk := consumeAnswer_hostKept a (setInputs s.inputs.tail s)
    exact .inr ⟨hk.ie, hk.devAddr, hk.slp, hk.arg⟩
  · exact .inr ⟨rfl, rfl, rfl, rfl⟩
  · exact .inr ⟨rfl, rfl, rfl, rfl⟩
  · exact .inl ⟨off, v, hi, rfl⟩
  · exact absurd hi hr

/-- Settles O36: the only such step is a host write, to the register that changes. -/
theorem operandsBelongToTheHost : Obligations.OperandsBelongToTheHost := by
  intro s t h hr
  rcases step_operands_kept h hr with ⟨off, v, hi, rfl⟩ | ⟨hie, hdev, hslp, harg⟩
  · cases hreg : regAt off with
    | none => simp [hostWrite, hreg]
    | some r =>
      rw [hostWrite_of_regAt hreg]
      obtain ⟨hie, hdev, hslp, harg⟩ := regWrite_operands r v (setInputs s.inputs.tail s)
      refine ⟨fun hne => ?_, fun hne => ?_, fun hne => ?_, fun hne => ?_⟩
      · obtain rfl := hie hne
        exact ⟨off, v, hi, index_of_regAt hreg⟩
      · obtain ⟨hlock, rfl⟩ := hdev hne
        obtain ⟨hb, hq⟩ := (devAddrLocked_eq_false_iff _).mp hlock
        exact ⟨hb, hq, off, v, hi, index_of_regAt hreg⟩
      · obtain ⟨hb, rfl⟩ := hslp hne
        exact ⟨hb, off, v, hi, index_of_regAt hreg⟩
      · obtain ⟨hb, rfl⟩ := harg hne
        exact ⟨hb, off, v, hi, index_of_regAt hreg⟩
  · simp [hie, hdev, hslp, harg]

/-! ## The calibration table -/

/-- R30, R106: at DECODE the table changes only with CAL_VALID cleared, by INIT. -/
theorem exec_calibration {i : Instr} {s t : State} (h : exec i s = .next t) :
    t.calValid = false ∨ (t.calValid = s.calValid ∧ t.cal = s.cal) := by
  rcases exec_cases h with ⟨code, -, rfl⟩ | ⟨-, rfl⟩ <;> cases i
  case inl.init | inr.init => exact .inl rfl
  all_goals exact .inr ⟨rfl, rfl⟩

theorem engineTurn_calibration {s t : State} (h : engineTurn s = .next t) :
    t.calValid = false ∨ (t.calValid = s.calValid ∧ t.cal = s.cal) := by
  rcases engineTurn_cases h with ⟨-, rfl⟩ | ⟨-, -, rfl⟩ | ⟨-, i, -, hx⟩
  · exact .inr ⟨rfl, rfl⟩
  · exact .inr ⟨rfl, rfl⟩
  · exact exec_calibration hx

/-- R30, R53, R106: of the answers only an ok one to the last calibration read touches the table, and
commits SHADOW with its last field. -/
theorem afterAnswer_calibration (p : SeqStep) (a : BusAnswer) (s : State) :
    ((afterAnswer p a s).calValid = s.calValid ∧ (afterAnswer p a s).cal = s.cal) ∨
    (p = .initRead 11 ∧ (afterAnswer p a s).seqStep = .initWrite ∧
      ∃ b0 b1 b2, a = .ok b0 b1 b2 ∧ (afterAnswer p a s).cal = { s.shadow with p9 := b1 ++ b0 }) := by
  cases a with
  | fail => cases p <;> exact .inl ⟨rfl, rfl⟩
  | ok b0 b1 b2 =>
    cases p
    case initRead i =>
      simp only [afterAnswer, afterCalRead]
      split
      · exact .inl ⟨rfl, rfl⟩
      · obtain rfl : i = 11 := by omega
        exact .inr ⟨rfl, rfl, b0, b1, b2, rfl, rfl⟩
    all_goals exact .inl ⟨rfl, rfl⟩

/-- Settles O37: the table changes by INIT's DECODE step and by reset, which clear CAL_VALID, and by INIT's
commit, before which CAL_VALID is 0. -/
theorem calibrationTableIsNeverPartial : Obligations.CalibrationTableIsNeverPartial := by
  intro s t h ht
  have hu : Inv (setInputs s.inputs.tail s) := h.setInputs _
  rcases step_actor_cases ht with ⟨-, hx⟩ | ⟨a, hi, rfl⟩ | ⟨-, rfl⟩ | ⟨e, -, -, -, hk⟩
  · rcases engineTurn_calibration hx with hv | ⟨hv, hc⟩
    · simp [hv]
    · exact ⟨fun _ _ => hc, fun h0 h1 => by simp [hv, h0] at h1⟩
  · rw [hu.consumeAnswer_eq]
    rcases afterAnswer_calibration (setInputs s.inputs.tail s).seqStep a (setInputs s.inputs.tail s) with
      ⟨hv, hc⟩ | ⟨hp, hstep, b0, b1, b2, rfl, hc⟩
    · exact ⟨fun _ _ => hc, fun h0 h1 => absurd (h1.symm.trans (hv.trans h0)) (by decide)⟩
    · have hbefore : s.calValid = false := (hu.link_of_initRead hp).2.2
      exact ⟨fun h1 => absurd (h1.symm.trans hbefore) (by decide), fun _ _ => ⟨hp, hstep, b0, b1, b2, hi, hc⟩⟩
  · have hv : (applyReset (setInputs s.inputs.tail s)).calValid = false := rfl
    simp [hv]
  · exact ⟨fun _ _ => hk.cal, fun h0 h1 => by simp [hk.calValid, h0] at h1⟩

end Sys2Proof.Machine
end

section
/-! PROOFS. Reset while a command runs, the DECODE step as a step of the machine, and INIT: each of its steps
from every state that waits for it, and whole runs of it. -/

namespace Sys2Proof.Machine

/-! ## Reset -/

/-- R231: with no transaction in flight an answer is only taken off the schedule. -/
theorem step_answer_discarded {s : State} {a : BusAnswer} {rest : List Event} (hr : s.busreq = none)
    (h : s.inputs = .answer a :: rest) : step s = .next (setInputs rest s) :=
  (step_answer h).trans (congrArg _ (consumeAnswer_discarded (s := setInputs rest s) a hr))

/-- Settles O2: a reset leaves no transaction in flight, so a later answer finds none. -/
theorem resetAbandonsTheRunningCommand : Obligations.ResetAbandonsTheRunningCommand := by
  intro s rest h
  refine ⟨applyReset (setInputs rest s), step_cons h, afterReset_resetFrom _ _ _ _, rfl, rfl, rfl,
    fun a rest' => ⟨?_, ?_⟩⟩
  · exact step_answer_discarded rfl rfl
  · exact step_cons (e := .lateAnswer a) (rest := rest') rfl

/-! ## The DECODE step as a step -/

/-- Settles O6: the engine's turn at DECODE of a command's word is `exec` of the command. -/
theorem stepRunsTheDecodedCommand : Obligations.StepRunsTheDecodedCommand := by
  intro s i hi hs hd
  calc step s = engineTurn (setInputs s.inputs.tail s) := step_engine hi
    _ = decodeStep (setInputs s.inputs.tail s) := engineTurn_decode hs
    _ = exec i (setInputs s.inputs.tail s) := decodeStep_ok hd

/-- Settles O9: INIT has no check, clears the epoch and issues OPEN. -/
theorem initStartsTheSequence : Obligations.InitStartsTheSequence :=
  ⟨decode_encode .init, fun s => ⟨_, _, exec_of_passed (firstFailure_init s)⟩⟩

/-! ## The steps of INIT that consume an answer -/

/-- R106, R200: a failing INIT completes in FAILED; only what SHADOW holds is open (U8). -/
theorem next_initFail (c : Code) (idx : BitVec 4) (s : State) :
    (.next (initFail c idx s) : Out) = .next (completed
      { s with seqState := .failed, shadow := Config.freeShadow s.draws, draws := s.draws + 1 }
      idx.toNat (codeByte c).toNat) :=
  congrArg _ (complete_eq_completed c idx _)

/-- Settles O12: the steps that wait for OPEN and for the mode write fail by `initFail`. -/
theorem initFailsAtOpenOrModeWrite : Obligations.InitFailsAtOpenOrModeWrite :=
  fun _ _ h hr =>
    ⟨fun hs => ⟨_, _, (step_awaited hr hs h).trans (next_initFail .busUnavailable 0 _)⟩,
      fun hs => ⟨_, _, (step_awaited hr hs h).trans (next_initFail .configurationError 0 _)⟩⟩

/-- R50, R53: writing one field of a table changes that field alone. -/
theorem calGet_calSet (c : CalTable) (i j : Fin 12) (v : Half) :
    calGet (calSet c i v) j = if j = i then v else calGet c j := by
  fin_cases i <;> fin_cases j <;> rfl

/-- Settles O55: the answer's step is the one its position waits for, and the table is read and written
field by field. -/
theorem initStepsFollowTheSequence : Obligations.InitStepsFollowTheSequence := by
  refine ⟨fun s rest b0 b1 b2 hr h => ⟨fun hs => step_awaited hr hs h, fun i hi hs => ?_,
    fun hs => step_awaited hr hs h, fun hs => (step_awaited hr hs h).trans (next_complete .none _)⟩,
    fun s rest i hr h hs => ?_, calGet_calSet, fun c => rfl⟩
  · obtain ⟨r, hr⟩ := Option.isSome_iff_exists.mp hr
    exact step_initRead_ok i h hr hs hi
  · obtain ⟨r, hr⟩ := Option.isSome_iff_exists.mp hr
    have hidx : i.val % 16 = i.val := Nat.mod_eq_of_lt (by omega)
    exact ⟨_, _, hidx ▸ step_initRead_fail i h hr hs⟩

/-! ## A whole INIT -/

/-- R35, R55, R106: what an INIT that began in `s` keeps until it ends: its word, the cleared epoch, and
everything that belongs to no INIT. -/
structure InitRun (s u : State) : Prop where
  cmdl : u.cmdl = 0x00000001
  epoch : u.tvalid = false ∧ u.pvalid = false ∧ u.p32valid = false ∧ u.avalid = false ∧ u.psent = false
  devAddr : u.devAddr = s.devAddr
  slp : u.slp = s.slp
  data : sameData s u
  rvalid : u.rvalid = s.rvalid
  ign : u.ign = s.ign

/-- The transactions of an INIT up to its calibration read `n - 1`, newest first. -/
def readsLog (dev : DevAddr) (n : Nat) : List BusReq :=
  ((List.finRange 12).take n).reverse.map (fun i => .rd dev (calReg i) .two) ++ [.openDev dev]

/-- R106: `u` waits for calibration read `k` of an INIT that began in `s` and has read the first `k` fields
of `w`. -/
structure InitReading (s : State) (w : Fin 12 → Half) (k : Fin 12) (u : State) : Prop where
  run : InitRun s u
  seqStep : u.seqStep = .initRead k
  busreq : u.busreq.isSome = true
  busOpen : u.busOpen = true
  calValid : u.calValid = false
  shadow : ∀ j < k, calGet u.shadow j = w j
  busLog : u.busLog = readsLog s.devAddr (k.val + 1) ++ s.busLog

theorem take_finRange_succ {k : Nat} (hk : k < 12) :
    (List.finRange 12).take (k + 1) = (List.finRange 12).take k ++ [⟨k, hk⟩] := by
  rw [List.take_succ_eq_append_getElem (by simpa using hk)]
  simp

theorem readsLog_succ (dev : DevAddr) {k : Nat} (hk : k < 12) :
    readsLog dev (k + 1) = .rd dev (calReg ⟨k, hk⟩) .two :: readsLog dev k := by
  simp [readsLog, take_finRange_succ hk]

theorem readsLog_length (dev : DevAddr) {n : Nat} (hn : n ≤ 12) : (readsLog dev n).length = n + 1 := by
  simp [readsLog, hn]

/-- R106: the CMD write, DECODE and an ok answer to OPEN bring an idle machine to the first read. -/
theorem run_to_first_read {s : State} (w : Fin 12 → Half) {rest : List Event} (hb : s.busy = false)
    (h : s.inputs = .hostWrite 0x04 0x00000001 :: .engine :: .answer (.ok 0 0 0) :: rest) :
    ∃ u, InitReading s w 0 u ∧ u.inputs = rest ∧
      ∀ n, Host.Core.run core (3 + n) s = Host.Core.run core n u := by
  refine ⟨_, ?_, ?_, fun n => Nat.add_comm 3 n ▸ (run_init_start (n + 1) hb h).trans
    (run_succ n (step_initOpen_ok rfl rfl rfl))⟩
  · refine ⟨⟨rfl, ⟨rfl, rfl, rfl, rfl, rfl⟩, rfl, rfl, sameData.refl s, rfl, rfl⟩, rfl, rfl, rfl, rfl,
      fun j hj => absurd hj (Fin.not_lt_zero j), rfl⟩
  · rfl

/-- R106: an ok answer brings INIT from one calibration read to the next. -/
theorem InitReading.next_read {s u : State} {w : Fin 12 → Half} {k : Nat} {hk : k + 1 < 12} {b0 b1 : Byte}
    {rest : List Event} (h : InitReading s w ⟨k, by omega⟩ u) (hw : w ⟨k, by omega⟩ = b1 ++ b0)
    (hi : u.inputs = .answer (.ok b0 b1 0) :: rest) :
    ∃ u', InitReading s w ⟨k + 1, hk⟩ u' ∧ u'.inputs = rest ∧ step u = .next u' := by
  obtain ⟨r, hr⟩ := Option.isSome_iff_exists.mp h.busreq
  refine ⟨_, ?_, ?_, step_initRead_ok ⟨k, by omega⟩ hi hr h.seqStep hk⟩
  · exact {
      run := { h.run with }
      seqStep := rfl
      busreq := rfl
      busOpen := h.busOpen
      calValid := h.calValid
      shadow := fun j hj => by
        rw [calGet_calSet]
        split
        · subst j; exact hw.symm
        · exact h.shadow j (lt_of_le_of_ne (Nat.le_of_lt_succ hj) ‹_›)
      busLog := by
        rw [readsLog_succ s.devAddr hk, List.cons_append, ← h.busLog, ← h.run.devAddr] }
  · rfl

/-- R106: the first `k` reads of a calibration given by its bytes, all answered ok. -/
theorem run_to_read {s : State} (b : Fin 12 → Byte × Byte) (hb : s.busy = false) (k : Nat) :
    ∀ (hk : k < 12) (rest : List Event),
      s.inputs = .hostWrite 0x04 0x00000001 :: .engine :: .answer (.ok 0 0 0) ::
        ((List.finRange 12).take k).map (fun i => Event.answer (.ok (b i).1 (b i).2 0)) ++ rest →
      ∃ u, InitReading s (fun i => (b i).2 ++ (b i).1) ⟨k, hk⟩ u ∧ u.inputs = rest ∧
        ∀ n, Host.Core.run core (k + 3 + n) s = Host.Core.run core n u := by
  induction k with
  | zero =>
    intro _ rest h
    simpa using run_to_first_read _ hb h
  | succ k ih =>
    intro hk rest h
    obtain ⟨u, hu, hi, hrun⟩ := ih (by omega) (.answer (.ok (b ⟨k, by omega⟩).1 (b ⟨k, by omega⟩).2 0) :: rest)
      (by rw [h, take_finRange_succ (by omega)]; simp)
    obtain ⟨u', hu', hi', hstep⟩ := hu.next_read (hk := hk) rfl hi
    refine ⟨u', hu', hi', fun n => ?_⟩
    rw [← run_succ n hstep, ← hrun (n + 1)]
    congr 1
    omega

/-- R30, R50: a read of CAL[i]. -/
theorem portValue_cal (i : Fin 12) (s : State) :
    portValue (BitVec.ofNat 8 (0x40 + 4 * i.val)) s = if s.calValid then calExtend s.cal i else 0 :=
  portValue_regOffset (.cal i) s

/-- Settles O11: INIT reaches read `k`, whose failure ends it with the index `k`. -/
theorem initFailsAtAnyCalibrationRead : Obligations.InitFailsAtAnyCalibrationRead := by
  intro s k b rest hb h
  obtain ⟨u, hu, hi, hrun⟩ := run_to_read b hb k.val k.isLt (.answer .fail :: rest) h
  obtain ⟨r, hr⟩ := Option.isSome_iff_exists.mp hu.busreq
  have hend := (hrun 1).trans (run_succ 0 (step_initRead_fail k hi hr hu.seqStep))
  refine ⟨_, hend, rfl, hu.busOpen, hu.calValid, rfl, rfl, ?_, fun i => ?_, ?_, rfl⟩
  · simp only [completed, completionRecord, hu.run.cmdl]
    have hword : (0x00000001 : Word).toNat % 256 = 1 := rfl
    rw [hword]
    exact congrArg _ (by omega)
  · rw [portValue_cal, if_neg (by simp [completed, hu.calValid])]
  · have hlen := readsLog_length s.devAddr (n := k.val + 1) k.isLt
    simp only [completed, hu.busLog, List.length_append, hlen]
    omega

/-- R50: a table that holds the fields of `w` reads back as `w`, with the signedness of each field. -/
theorem calExtend_of_calGet {c : CalTable} {w : Fin 12 → Half} (h : ∀ j, calGet c j = w j) (i : Fin 12) :
    calExtend c i = if i = 0 ∨ i = 3 then (w i).setWidth 32 else (w i).signExtend 32 := by
  simp [calExtend, calUnsigned, h]

/-- R106: the commit after the last read, with the whole table `w` in CAL, and the mode write issued. -/
theorem InitReading.commit {s u : State} {w : Fin 12 → Half} {b0 b1 : Byte} {rest : List Event}
    (h : InitReading s w 11 u) (hw : w 11 = b1 ++ b0) (hi : u.inputs = .answer (.ok b0 b1 0) :: rest) :
    ∃ u', step u = .next u' ∧ InitRun s u' ∧ u'.inputs = rest ∧ u'.seqStep = .initWrite ∧
      u'.busreq.isSome = true ∧ u'.busOpen = true ∧ u'.calValid = true ∧ (∀ j, calGet u'.cal j = w j) ∧
      u'.busLog = .wr s.devAddr modeReg modeByte :: (readsLog s.devAddr 12 ++ s.busLog) := by
  have hstep := step_awaited h.busreq h.seqStep hi
  refine ⟨_, hstep, { h.run with }, rfl, rfl, rfl, h.busOpen, rfl,
    fun j => ?_, ?_⟩
  · refine (calGet_calSet u.shadow 11 j _).trans ?_
    split
    · subst j; exact hw.symm
    · exact h.shadow j (by omega)
  · have hlog : u.busLog = readsLog s.devAddr 12 ++ s.busLog := h.busLog
    rw [← hlog, ← h.run.devAddr]
    rfl

/-- Settles O10: INIT reaches its last read, commits the table it has read and completes in READY. -/
theorem initReachesReady : Obligations.InitReachesReady := by
  intro s lo hi rest hb h
  obtain ⟨u, hu, hin, hrun⟩ := run_to_read (fun i => (lo i, hi i)) hb 11 (by decide)
    (.answer (.ok (lo 11) (hi 11) 0) :: .answer (.ok 0 0 0) :: rest) h
  obtain ⟨v, hcommit, hv, hin, hstep, hreq, hopen, hvalid, hcal, hlog⟩ := hu.commit rfl hin
  have hwrite := (step_awaited hreq hstep hin).trans (next_complete .none _)
  have hend := (hrun 2).trans ((run_succ 1 hcommit).trans (run_succ 0 hwrite))
  obtain ⟨ht, hp, hp32, ha, hps⟩ := hv.epoch
  refine ⟨_, hend, rfl, hopen, hvalid, rfl, rfl, ?_, rfl, fun i => ?_, ?_, rfl, ht, hp, hp32, ha, hps,
    hv.devAddr, hv.slp, hv.data, hv.rvalid, hv.ign⟩
  · exact congrArg (completionRecord · 0 0x00) hv.cmdl
  · exact (portValue_cal i _).trans ((if_pos hvalid).trans (calExtend_of_calGet hcal i))
  · exact hlog

end Sys2Proof.Machine
end

section
/-! PROOFS. The checks of 60_exceptions.md section 2, what a failing command leaves, and that no flag but the
checked ones steers a command (R58). -/

namespace Sys2Proof.Machine

/-! ## The checks in order -/

/-- R104, R210: past its checks a command completes with NONE and no transaction, or waits with ERR kept. -/
theorem afterChecks_ends (i : Instr) (s : State) :
    ((afterChecks i s).seqStep = .idle ∧ (afterChecks i s).err = completionRecord s.cmdl 0 0x00 ∧
        (afterChecks i s).busLog = s.busLog) ∨
      ((afterChecks i s).seqStep ≠ .idle ∧ (afterChecks i s).busreq.isSome = true ∧
        (afterChecks i s).err = s.err) := by
  have hrecord : errWord (opcOf s.cmdl) 0 .none = completionRecord s.cmdl 0 0x00 :=
    errWord_eq_completionRecord s.cmdl 0 .none
  cases i
  case init | readT | readP | readAlt => exact .inr ⟨by simp [afterChecks], rfl, rfl⟩
  all_goals exact .inl ⟨rfl, hrecord, rfl⟩

/-- Settles O39: a failing check completes the command, and past the checks it ends in one of two ways. -/
theorem checksAreMadeInOrder : Obligations.ChecksAreMadeInOrder := by
  intro i s
  cases hf : firstFailure i s with
  | some code =>
    refine ⟨_, exec_of_failure hf, ?_, rfl, rfl, rfl, clearedAtDecode_busLog i s,
      clearedAtDecode_seqState (ne_init_of_failure hf) s⟩
    exact congrArg (completionRecord · 0 code) (clearedAtDecode_cmdl i s)
  | none =>
    have hends := afterChecks_ends i (clearedAtDecode i s)
    rw [clearedAtDecode_cmdl, clearedAtDecode_busLog, clearedAtDecode_err] at hends
    exact ⟨_, exec_of_passed hf, hends⟩

/-! ## What a failing command leaves -/

theorem clearedAtDecode_sameData (i : Instr) (s : State) : sameData s (clearedAtDecode i s) := by
  cases i <;> exact sameData.refl s

/-- R31–R36, R205: the clears at DECODE are those of the command's outputs. -/
theorem clearedAtDecode_outputsInvalid (i : Instr) (s : State) : outputsInvalid i (clearedAtDecode i s) := by
  cases i
  case nop => trivial
  case init => exact ⟨rfl, rfl, rfl, rfl, rfl⟩
  case readAlt => exact ⟨rfl, rfl⟩
  all_goals rfl

theorem outputsInvalid_completed {i : Instr} {s : State} (h : outputsInvalid i s) (idx code : Nat) :
    outputsInvalid i (completed s idx code) := by
  cases i <;> exact h

/-- R205: a fail answer keeps every data register. -/
theorem afterAnswer_fail_sameData (p : SeqStep) (s : State) : sameData s (afterAnswer p .fail s) := by
  cases p <;> exact sameData.refl s

/-- R205: a fail answer keeps the valid bits of the data registers and of the table. -/
theorem afterAnswer_fail_outputsInvalid {i : Instr} {s : State} (p : SeqStep) (h : outputsInvalid i s) :
    outputsInvalid i (afterAnswer p .fail s) := by
  cases p <;> cases i <;> exact h

/-- R106: while INIT waits before its commit no result of the epoch is valid. -/
theorem Inv.outputsInvalid_init {s : State} (h : Inv s) (hv : s.calValid = false)
    (hq : s.seqState ≠ .ready) : outputsInvalid .init s := by
  have hepoch := h.linkInv.epoch_clear hq
  simp only [Bool.or_eq_false_iff] at hepoch
  obtain ⟨⟨⟨⟨ht, hp⟩, hp32⟩, ha⟩, -⟩ := hepoch
  exact ⟨hv, ht, hp, hp32, ha⟩

/-- Settles O40: the clears at DECODE invalidate the outputs, and the invariant says they still are invalid
when the answer comes, which a fail answer leaves so. -/
theorem failingCommandsLeaveOutputsInvalid : Obligations.FailingCommandsLeaveOutputsInvalid := by
  refine ⟨fun i s code hf => ⟨_, exec_of_failure hf, clearedAtDecode_sameData i s,
    outputsInvalid_completed (clearedAtDecode_outputsInvalid i s) 0 code⟩, fun s rest h hi => ?_⟩
  have hu : Inv (setInputs rest s) := h.setInputs rest
  refine ⟨_, step_answer hi, ?_⟩
  rw [hu.consumeAnswer_eq]
  refine ⟨afterAnswer_fail_sameData _ (setInputs rest s),
    fun hp => ?_, fun hp => ?_, fun hp => ?_, fun hp => ?_, fun k hp => ?_⟩ <;>
    apply afterAnswer_fail_outputsInvalid
  · exact hu.ownT hp
  · exact (hu.ownP (.inl hp)).1
  · exact ⟨(hu.ownP (.inr hp)).1, hu.ownA hp⟩
  · obtain ⟨hq, -, hv⟩ := hu.link_of_initOpen hp
    exact hu.outputsInvalid_init hv (by rw [hq]; decide)
  · obtain ⟨hq, -, hv⟩ := hu.link_of_initRead hp
    exact hu.outputsInvalid_init hv (by rw [hq]; decide)

/-! ## No flag steers a command -/

/-- R58: an operation in which no flag is read: everything that is no flag comes out the same whatever the
flags are, and each flag is written alike or kept. -/
def FlagBlind (F : State → State) : Prop := ∀ (f : Flags) (s : State), SameWork f s (F s) (F (withFlags f s))

theorem writtenOrKept.trans {α : Type} {s s' t t' u u' : α} (h : writtenOrKept s s' t t')
    (h' : writtenOrKept t t' u u') : writtenOrKept s s' u u' := by
  rcases h' with h' | ⟨rfl, rfl⟩
  · exact .inl h'
  · exact h

theorem FlagBlind.comp {F G : State → State} (hG : FlagBlind G) (hF : FlagBlind F) :
    FlagBlind (fun s => G (F s)) := by
  intro f s
  have h := hF f s
  have h' := hG (flagsOf (F (withFlags f s))) (F s)
  rw [← h.work] at h'
  exact ⟨h'.work, h.ie.trans h'.ie, h.busy.trans h'.busy, h.done.trans h'.done, h.ign.trans h'.ign,
    h.seqState.trans h'.seqState, h.busOpen.trans h'.busOpen, h.calValid.trans h'.calValid,
    h.tvalid.trans h'.tvalid, h.pvalid.trans h'.pvalid, h.p32valid.trans h'.p32valid,
    h.avalid.trans h'.avalid, h.rvalid.trans h'.rvalid, h.psent.trans h'.psent⟩

/-- R58: an operation that touches no flag. -/
theorem flagBlind_of_kept {F : State → State} (hwork : ∀ f s, F (withFlags f s) = withFlags f (F s))
    (hflags : ∀ s, flagsOf (F s) = flagsOf s) : FlagBlind F := fun f s => by
  have hf : flagsOf (F (withFlags f s)) = f := by rw [hwork, flagsOf_withFlags]
  have hs := hflags s
  rw [hwork]
  simp only [flagsOf, Flags.mk.injEq] at hs
  obtain ⟨hie, hbusy, hdone, hign, hq, ho, hv, ht, hp, hp32, ha, hr, hps⟩ := hs
  exact ⟨rfl, .inr ⟨hie, rfl⟩, .inr ⟨hbusy, rfl⟩, .inr ⟨hdone, rfl⟩, .inr ⟨hign, rfl⟩, .inr ⟨hq, rfl⟩,
    .inr ⟨ho, rfl⟩, .inr ⟨hv, rfl⟩, .inr ⟨ht, rfl⟩, .inr ⟨hp, rfl⟩, .inr ⟨hp32, rfl⟩, .inr ⟨ha, rfl⟩,
    .inr ⟨hr, rfl⟩, .inr ⟨hps, rfl⟩⟩

theorem flagBlind_id : FlagBlind id := flagBlind_of_kept (fun _ _ => rfl) fun _ => rfl

theorem flagBlind_issue (r : DevAddr → BusReq) (p : SeqStep) : FlagBlind fun s => issue (r s.devAddr) p s :=
  flagBlind_of_kept (fun _ _ => rfl) fun _ => rfl

theorem flagBlind_completed (idx code : Nat) : FlagBlind fun s => completed s idx code := fun f s => by
  constructor
  case work => rfl
  case busy | done => exact writtenOrKept_written _ _ _
  all_goals exact writtenOrKept_kept _ _

theorem flagBlind_complete (c : Code) (idx : BitVec 4) : FlagBlind (complete c idx) := by
  rw [funext (complete_eq_completed c idx)]
  exact flagBlind_completed _ _

/-- R31–R36, R106: the clears write the bits they clear, whatever these are. -/
theorem flagBlind_clearedAtDecode (i : Instr) : FlagBlind (clearedAtDecode i) := fun f s => by
  cases i
  case nop => exact flagBlind_id f s
  case init =>
    constructor
    case work => rfl
    case seqState | busOpen | calValid | tvalid | pvalid | p32valid | avalid | psent =>
      exact writtenOrKept_written _ _ _
    all_goals exact writtenOrKept_kept _ _
  case readT | compT =>
    constructor
    case work => rfl
    case tvalid => exact writtenOrKept_written _ _ _
    all_goals exact writtenOrKept_kept _ _
  case readP | compP =>
    constructor
    case work => rfl
    case pvalid | psent => exact writtenOrKept_written _ _ _
    all_goals exact writtenOrKept_kept _ _
  case readAlt =>
    constructor
    case work => rfl
    case pvalid | avalid | psent => exact writtenOrKept_written _ _ _
    all_goals exact writtenOrKept_kept _ _
  case compP32 =>
    constructor
    case work => rfl
    case p32valid | psent => exact writtenOrKept_written _ _ _
    all_goals exact writtenOrKept_kept _ _
  case alt =>
    constructor
    case work => rfl
    case avalid => exact writtenOrKept_written _ _ _
    all_goals exact writtenOrKept_kept _ _
  case log2 | exp2 =>
    constructor
    case work => rfl
    case rvalid => exact writtenOrKept_written _ _ _
    all_goals exact writtenOrKept_kept _ _

theorem flagBlind_temperatureStage : FlagBlind temperatureStage := fun f s => by
  constructor
  case work => rfl
  case tvalid => exact writtenOrKept_written _ _ _
  all_goals exact writtenOrKept_kept _ _

theorem flagBlind_pressureStage : FlagBlind pressureStage := fun f s => by
  constructor
  case work => rfl
  case pvalid | psent => exact writtenOrKept_written _ _ _
  all_goals exact writtenOrKept_kept _ _

theorem flagBlind_pressure32Stage : FlagBlind pressure32Stage := fun f s => by
  constructor
  case work => rfl
  case p32valid | psent => exact writtenOrKept_written _ _ _
  all_goals exact writtenOrKept_kept _ _

theorem flagBlind_altitudeStage : FlagBlind altitudeStage := fun f s => by
  constructor
  case work => rfl
  case avalid => exact writtenOrKept_written _ _ _
  all_goals exact writtenOrKept_kept _ _

/-- R177, R178: a result computed from ARG, and RVALID. -/
theorem flagBlind_result (r : Word → Word) : FlagBlind fun s => { s with res := r s.arg, rvalid := true } :=
  fun f s => by
    constructor
    case work => rfl
    case rvalid => exact writtenOrKept_written _ _ _
    all_goals exact writtenOrKept_kept _ _

/-- R58: the work of every command past its checks. -/
theorem flagBlind_afterChecks (i : Instr) : FlagBlind (afterChecks i) := by
  have hdone := flagBlind_complete .none 0
  cases i
  case nop => exact hdone
  case init => exact flagBlind_issue .openDev .initOpen
  case readT => exact flagBlind_issue (.rd · tempReg .three) .readT
  case readP => exact flagBlind_issue (.rd · pressReg .three) .readP
  case readAlt => exact flagBlind_issue (.rd · pressReg .three) .readAlt
  case compT => exact hdone.comp flagBlind_temperatureStage
  case compP => exact hdone.comp flagBlind_pressureStage
  case compP32 => exact hdone.comp flagBlind_pressure32Stage
  case alt => exact hdone.comp flagBlind_altitudeStage
  case log2 => exact hdone.comp (flagBlind_result fun w => BitVec.ofNat 32 (log2fx w))
  case exp2 => exact hdone.comp (flagBlind_result fun w => BitVec.ofNat 32 (exp2fx w.toInt))

/-! ### The steps that consume an answer -/

theorem flagBlind_rawT (v : Raw) : FlagBlind fun s => { s with rawT := v } :=
  flagBlind_of_kept (fun _ _ => rfl) fun _ => rfl

theorem flagBlind_rawP (v : Raw) : FlagBlind fun s => { s with rawP := v } :=
  flagBlind_of_kept (fun _ _ => rfl) fun _ => rfl

theorem flagBlind_shadow (i : Fin 12) (v : Half) : FlagBlind fun s => { s with shadow := calSet s.shadow i v } :=
  flagBlind_of_kept (fun _ _ => rfl) fun _ => rfl

theorem flagBlind_seqState (q : SeqState) : FlagBlind fun s => { s with seqState := q } := fun f s => by
  constructor
  case work => rfl
  case seqState => exact writtenOrKept_written _ _ _
  all_goals exact writtenOrKept_kept _ _

/-- R53: the draw of what SHADOW holds after a failed INIT. -/
theorem flagBlind_drawShadow :
    FlagBlind fun s => { s with shadow := Config.freeShadow s.draws, draws := s.draws + 1 } :=
  flagBlind_of_kept (fun _ _ => rfl) fun _ => rfl

theorem flagBlind_initFail (c : Code) (idx : BitVec 4) : FlagBlind (initFail c idx) :=
  (flagBlind_complete c idx).comp ((flagBlind_seqState .failed).comp flagBlind_drawShadow)

theorem flagBlind_afterOpen (a : BusAnswer) : FlagBlind (afterOpen a) := by
  cases a with
  | fail => exact flagBlind_initFail .busUnavailable 0
  | ok b0 b1 b2 =>
    intro f s
    constructor
    case work => rfl
    case seqState | busOpen => exact writtenOrKept_written _ _ _
    all_goals exact writtenOrKept_kept _ _

theorem flagBlind_commitCal : FlagBlind commitCal := fun f s => by
  constructor
  case work => rfl
  case seqState | calValid => exact writtenOrKept_written _ _ _
  all_goals exact writtenOrKept_kept _ _

theorem flagBlind_afterCalRead (i : Fin 12) (a : BusAnswer) : FlagBlind (afterCalRead i a) := by
  cases a with
  | fail => exact flagBlind_initFail .calibrationReadError (BitVec.ofNat 4 i.val)
  | ok b0 b1 b2 =>
    have hshadow := flagBlind_shadow i (cal16 b0 b1)
    by_cases hi : i.val + 1 < 12
    · have hnext : afterCalRead i (.ok b0 b1 b2) = fun s =>
          issueCalRead ⟨i.val + 1, hi⟩ { s with shadow := calSet s.shadow i (cal16 b0 b1) } :=
        funext fun s => dif_pos hi
      rw [hnext]
      exact (flagBlind_issue (.rd · (calReg ⟨i.val + 1, hi⟩) .two) _).comp hshadow
    · have hcommit : afterCalRead i (.ok b0 b1 b2) = fun s =>
          commitCal { s with shadow := calSet s.shadow i (cal16 b0 b1) } :=
        funext fun s => dif_neg hi
      rw [hcommit]
      exact flagBlind_commitCal.comp hshadow

theorem flagBlind_afterModeWrite (a : BusAnswer) : FlagBlind (afterModeWrite a) := by
  cases a with
  | fail => exact flagBlind_initFail .configurationError 0
  | ok b0 b1 b2 => exact (flagBlind_complete .none 0).comp (flagBlind_seqState .ready)

/-- R58: at every position the step that consumes an answer reads no flag. -/
theorem flagBlind_afterAnswer (p : SeqStep) (a : BusAnswer) : FlagBlind (afterAnswer p a) := by
  have hdone := flagBlind_complete .none 0
  have hfail := flagBlind_complete .busReadError 0
  cases p
  case idle | decode => exact flagBlind_id
  case initOpen => exact flagBlind_afterOpen a
  case initRead i => exact flagBlind_afterCalRead i a
  case initWrite => exact flagBlind_afterModeWrite a
  case readT =>
    cases a with
    | fail => exact hfail
    | ok b0 b1 b2 => exact hdone.comp (flagBlind_temperatureStage.comp (flagBlind_rawT (raw20 b0 b1 b2)))
  case readP =>
    cases a with
    | fail => exact hfail
    | ok b0 b1 b2 => exact hdone.comp (flagBlind_pressureStage.comp (flagBlind_rawP (raw20 b0 b1 b2)))
  case readAlt =>
    cases a with
    | fail => exact hfail
    | ok b0 b1 b2 =>
      exact hdone.comp (flagBlind_altitudeStage.comp
        (flagBlind_pressureStage.comp (flagBlind_rawP (raw20 b0 b1 b2))))

theorem flagBlind_consumeAnswer (a : BusAnswer) : FlagBlind (consumeAnswer a) := fun f s => by
  cases hr : s.busreq with
  | none =>
    rw [consumeAnswer_discarded a hr, consumeAnswer_discarded (s := withFlags f s) a hr]
    exact flagBlind_id f s
  | some r =>
    have hsome : s.busreq.isSome = true := Option.isSome_of_eq_some hr
    rw [consumeAnswer_awaited a hsome, consumeAnswer_awaited (s := withFlags f s) a hsome]
    exact flagBlind_afterAnswer s.seqStep a f s

/-! ### The checks -/

/-- R58: the checks of a command read no flag but the ones it may. -/
theorem firstFailure_withFlags {i : Instr} {f : Flags} {s : State} (h : checkedAgree i f (flagsOf s)) :
    firstFailure i (withFlags f s) = firstFailure i s := by
  obtain ⟨ht, hp, hq⟩ := h
  cases i
  case nop | init | log2 | exp2 => rfl
  all_goals simp_all [firstFailure, withFlags, flagsOf]

/-- Settles O41: the checks come out the same, and neither the clears, nor the work past the checks, nor a
step that consumes an answer reads a flag. -/
theorem commandsDoNotReadHostFlags : Obligations.CommandsDoNotReadHostFlags := by
  refine ⟨fun i s t f h hx => ?_, fun a s f => flagBlind_consumeAnswer a f s⟩
  have hff := firstFailure_withFlags h
  rcases exec_cases hx with ⟨code, hf, rfl⟩ | ⟨hf, rfl⟩
  · exact ⟨_, exec_of_failure (hff.trans hf),
      (flagBlind_completed 0 code).comp (flagBlind_clearedAtDecode i) f s⟩
  · exact ⟨_, exec_of_passed (hff.trans hf),
      (flagBlind_afterChecks i).comp (flagBlind_clearedAtDecode i) f s⟩

end Sys2Proof.Machine
end

section
/-! PROOFS. The host port of 20_memory.md word by word: what each register reads and what a write to it does,
at every offset of its word. -/

namespace Sys2Proof.Machine

/-! ## Accesses by word number -/

theorem portValue_of_index {off : Byte} (r : HostReg) (h : off.toNat / 4 = (regOffset r).toNat / 4)
    (s : State) : portValue off s = regValue r s :=
  portValue_of_regAt (regAt_of_index h) s

theorem hostWrite_of_index {off : Byte} (r : HostReg) (h : off.toNat / 4 = (regOffset r).toNat / 4)
    (v : Word) (s : State) : hostWrite off v s = regWrite r v s :=
  hostWrite_of_regAt (regAt_of_index h) v s

/-! ## Reads -/

theorem regValue_ctrl (s : State) : regValue .ctrl s = if s.ie = true then 1 else 0 := by
  cases h : s.ie <;> simp [regValue, h]

/-- Settles O54: each offset reaches the register of its word. -/
theorem registersReadTheirContents : Obligations.RegistersReadTheirContents := fun s _ =>
  ⟨fun h => (portValue_of_index .ctrl h s).trans (regValue_ctrl s),
    fun h => portValue_of_index .cmd h s,
    fun h => portValue_of_index .err h s,
    fun h => (portValue_of_index .devAddr h s).trans (BitVec.ofNat_toNat 32 s.devAddr).symm,
    fun h => portValue_of_index .slp h s,
    fun h => (portValue_of_index .rawT h s).trans (BitVec.ofNat_toNat 32 s.rawT).symm,
    fun h => (portValue_of_index .rawP h s).trans (BitVec.ofNat_toNat 32 s.rawP).symm,
    fun h => portValue_of_index .tFine h s,
    fun h => portValue_of_index .temp h s,
    fun h => portValue_of_index .press h s,
    fun h => portValue_of_index .press32 h s,
    fun h => portValue_of_index .alt h s,
    fun h => portValue_of_index .arg h s,
    fun h => portValue_of_index .res h s⟩

/-- Settles O27: the stored field with its signedness, behind CAL_VALID. -/
theorem calibrationReads : Obligations.CalibrationReads := by
  intro s i
  rw [portValue_cal, calExtend_of_calGet (fun _ => rfl)]
  cases s.calValid
  · rfl
  · simp only [Bool.true_eq_false, if_false, if_true, BitVec.ofNat_toNat]
    rfl

/-! ## Offset bits 1:0 and the order of bytes -/

/-- R61: clearing bits 1:0 of an offset leaves the first offset of its word. -/
theorem toNat_word_offset (off : Byte) : (off &&& 0xFC).toNat = off.toNat / 4 * 4 := by
  revert off
  decide

/-- R63: the offsets of the four bytes of a word. -/
theorem toNat_byte_offset (off : Byte) (k : Fin 4) :
    ((off &&& 0xFC) + BitVec.ofNat 8 k.val).toNat = off.toNat / 4 * 4 + k.val := by
  have := off.isLt
  rw [BitVec.toNat_add, toNat_word_offset, BitVec.toNat_ofNat]
  omega

theorem portValue_congr {a b : Byte} (h : a.toNat / 4 = b.toNat / 4) (s : State) :
    portValue a s = portValue b s := by
  rw [portValue, portValue, regAt_congr h]

theorem hostWrite_congr {a b : Byte} (h : a.toNat / 4 = b.toNat / 4) (v : Word) (s : State) :
    hostWrite a v s = hostWrite b v s := by
  rw [hostWrite, hostWrite, regAt_congr h]

/-- R63: byte `k` of the word an offset lies in. -/
theorem portByte_of_word (off : Byte) (k : Fin 4) (s : State) :
    portByte ((off &&& 0xFC) + BitVec.ofNat 8 k.val) s = (portValue off s).extractLsb' (8 * k.val) 8 := by
  have hk := toNat_byte_offset off k
  rw [portByte, portValue_congr (b := off) (by omega), hk]
  congr 2
  omega

/-- Settles O25: an access looks at the word of its offset, host events are next states, and a word is made
of its four bytes. -/
theorem portOffsetsAndByteOrder : Obligations.PortOffsetsAndByteOrder := by
  refine ⟨fun s off v => ?_, fun s off v rest => ⟨step_cons (e := .hostWrite off v) rfl,
    step_cons (e := .hostRead off) rfl⟩, fun s off => ?_⟩
  · have hword : off.toNat / 4 = (off &&& 0xFC).toNat / 4 := by
      rw [toNat_word_offset]
      omega
    exact ⟨portValue_congr hword s, hostWrite_congr hword v s⟩
  · have h0 : portByte (off &&& 0xFC) s = (portValue off s).extractLsb' 0 8 := by
      simpa using portByte_of_word off 0 s
    have h1 : portByte ((off &&& 0xFC) + 1) s = (portValue off s).extractLsb' 8 8 :=
      portByte_of_word off 1 s
    have h2 : portByte ((off &&& 0xFC) + 2) s = (portValue off s).extractLsb' 16 8 :=
      portByte_of_word off 2 s
    have h3 : portByte ((off &&& 0xFC) + 3) s = (portValue off s).extractLsb' 24 8 :=
      portByte_of_word off 3 s
    rw [h0, h1, h2, h3]
    exact (wordOfBytes_bytes (portValue off s)).symm

/-! ## Writes -/

/-- The low `n` bits of a written word, as a number. -/
theorem setWidth_eq_ofNat_mod (v : Word) (n : Nat) : v.setWidth n = BitVec.ofNat n (v.toNat % 2 ^ n) := by
  apply BitVec.eq_of_toNat_eq
  simp

/-- R20: the registers the host cannot write. -/
theorem hostWrite_readOnly {off : Byte}
    (h : off.toNat / 4 ∈ [3, 8, 9, 10, 11, 12, 14] ∨ (16 ≤ off.toNat / 4 ∧ off.toNat / 4 < 28)) (v : Word)
    (s : State) : hostWrite off v s = s := by
  cases hreg : regAt off with
  | none => rw [hostWrite, hreg]
  | some r =>
    rw [hostWrite_of_regAt hreg]
    rw [index_of_regAt hreg] at h
    cases r
    case ctrl | cmd | status | devAddr | slp | rawT | rawP | arg => simp [regOffset] at h
    all_goals rfl

/-- Settles O26: each offset reaches the register of its word, whose write its lock decides. -/
theorem hostWriteEffects : Obligations.HostWriteEffects := by
  intro s off v
  refine ⟨fun h => hostWrite_of_index .ctrl h v s, fun h => hostWrite_of_index .status h v s,
    fun h => ?_, fun h => hostWrite_of_index .slp h v s, fun h => ?_, fun h => ?_,
    fun h => hostWrite_of_index .arg h v s, fun h => hostWrite_readOnly h v s⟩
  · rw [hostWrite_of_index .devAddr h, regWrite, setWidth_eq_ofNat_mod]
    exact if_congr (by simp [devAddrLocked]) rfl rfl
  · rw [hostWrite_of_index .rawT h, regWrite, setWidth_eq_ofNat_mod]
    rfl
  · rw [hostWrite_of_index .rawP h, regWrite, setWidth_eq_ofNat_mod]
    rfl

end Sys2Proof.Machine
end

section
/-! PROOFS. The two pressure forms of 41_compensation.md sections 3 and 4: the sentinel and its divisor, and
the forms as machine-word arithmetic (decisions D19, D20). -/

namespace Sys2Proof.Machine

/-! ## The divisor guard -/

/-- R144: past the guard the 64-bit form computes a pressure without the sentinel. -/
theorem compP64_of_divisor_ne {tf : Word} {c : CalTable} (raw : Raw) (h : divisor64 tf c ≠ 0) :
    compP64 tf raw c = (BitVec.ofInt 32 (wrapU32 (finish64 (divT (mul64 (sub64
      (shl64 (sub64 1048576 (u20 raw)) 31) (offset64 tf c)) 3125) (divisor64 tf c)) c)), false) :=
  if_neg h

/-- R148: past the guard the 32-bit form computes a pressure without the sentinel. -/
theorem compP32_of_divisor_ne {tf : Word} {c : CalTable} (raw : Raw) (h : divisor32 tf c ≠ 0) :
    compP32 tf raw c = (BitVec.ofInt 32 (finish32 (divide32 (mulU32 (subU32 (wrapU32 (1048576 - u20 raw))
      (wrapU32 (sra (offset32 tf c) 12))) 3125) (wrapU32 (divisor32 tf c))) c), false) :=
  if_neg h

theorem compP64_sentinel_iff (tf : Word) (raw : Raw) (c : CalTable) :
    (compP64 tf raw c).2 = true ↔ divisor64 tf c = 0 := by
  by_cases h : divisor64 tf c = 0
  · simp [compP64_of_zero_divisor raw h, h]
  · simp [compP64_of_divisor_ne raw h, h]

theorem compP32_sentinel_iff (tf : Word) (raw : Raw) (c : CalTable) :
    (compP32 tf raw c).2 = true ↔ divisor32 tf c = 0 := by
  by_cases h : divisor32 tf c = 0
  · simp [compP32_of_zero_divisor raw h, h]
  · simp [compP32_of_divisor_ne raw h, h]

/-- A floor of 0 by a power of two. -/
theorem floor_eq_zero_iff {D m : Int} (hm : 0 < m) : D / m = 0 ↔ 0 ≤ D ∧ D < m := by
  constructor
  · intro h
    have := Int.emod_add_mul_ediv D m
    rw [h, mul_zero, add_zero] at this
    rw [← this]
    exact ⟨Int.emod_nonneg D hm.ne', Int.emod_lt_of_pos D hm⟩
  · exact fun h => Int.ediv_eq_zero_of_lt h.1 h.2

theorem tFine_bounds (tf : Word) : -2 ^ 31 ≤ tf.toInt ∧ tf.toInt < 2 ^ 31 :=
  ⟨BitVec.le_toInt tf, BitVec.toInt_lt⟩

/-- R144, R149: of the wraps in the 64-bit divisor only those of `v² · P3` and of the last product can
happen. -/
theorem divisor64_eq (tf : Word) (c : CalTable) {v : Int} (hv : v = tf.toInt - 128000) :
    divisor64 tf c = wrapS64 ((2 ^ 47 + wrapS64 (v * v * c.p3.toInt) / 2 ^ 8 + v * c.p2.toInt * 2 ^ 12) *
      c.p1.toNat) / 2 ^ 33 := by
  have htf := tFine_bounds tf
  have hp2 := s16_bounds c.p2
  have hvb : -2147611648 ≤ v ∧ v ≤ 2147483647 := by omega
  have hsub : sub64 tf.toInt 128000 = v := by rw [hv]; exact wrapS64_of_range (by omega) (by omega)
  have hsq : mul64 v v = v * v := wrapS64_of_range (by nlinarith) (by nlinarith)
  have hprod : -(2 ^ 47) ≤ v * s16 c.p2 ∧ v * s16 c.p2 ≤ 2 ^ 47 := ⟨by nlinarith, by nlinarith⟩
  have hmul : mul64 v (s16 c.p2) = v * s16 c.p2 := wrapS64_of_range (by omega) (by omega)
  have hshl : shl64 (v * s16 c.p2) 12 = v * s16 c.p2 * 2 ^ 12 :=
    wrapS64_of_range (by rw [shl]; omega) (by rw [shl]; omega)
  have hone : shl64 1 47 = 2 ^ 47 := by decide
  have hcube := wrapS64_bounds (v * v * s16 c.p3)
  have hadd : add64 (wrapS64 (v * v * s16 c.p3) / 2 ^ 8) (v * s16 c.p2 * 2 ^ 12) =
      wrapS64 (v * v * s16 c.p3) / 2 ^ 8 + v * s16 c.p2 * 2 ^ 12 :=
    wrapS64_of_range (by omega) (by omega)
  have hsum : add64 (2 ^ 47) (wrapS64 (v * v * s16 c.p3) / 2 ^ 8 + v * s16 c.p2 * 2 ^ 12) =
      2 ^ 47 + wrapS64 (v * v * s16 c.p3) / 2 ^ 8 + v * s16 c.p2 * 2 ^ 12 := by
    rw [add_assoc]
    exact wrapS64_of_range (by omega) (by omega)
  have hcubic : mul64 (v * v) (s16 c.p3) = wrapS64 (v * v * s16 c.p3) := rfl
  simp only [divisor64, hsub, hsq, hcubic, hmul, hshl, hone, sra_eq_div, hadd, hsum]
  rfl

/-- R148: of the wraps in the 32-bit divisor only those of the square and of the products with P1, P2 and
P3 can happen. -/
theorem divisor32_eq (tf : Word) (c : CalTable) {v q : Int} (hv : v = tf.toInt / 2 - 64000)
    (hq : q = wrapS32 (v / 4 * (v / 4))) :
    divisor32 tf c = wrapS32 ((32768 + (wrapS32 (c.p3.toInt * (q / 2 ^ 13)) / 2 ^ 3 +
      wrapS32 (c.p2.toInt * v) / 2) / 2 ^ 18) * c.p1.toNat) / 2 ^ 15 := by
  have htf := tFine_bounds tf
  have hsub : subS32 (tf.toInt / 2 ^ 1) 64000 = v := by
    rw [hv]
    exact wrapS32_of_range (by omega) (by omega)
  have hsq : mulS32 (v / 2 ^ 2) (v / 2 ^ 2) = q := hq.symm
  have hp3 : mulS32 (s16 c.p3) (q / 2 ^ 13) = wrapS32 (s16 c.p3 * (q / 2 ^ 13)) := rfl
  have hp2 : mulS32 (s16 c.p2) v = wrapS32 (s16 c.p2 * v) := rfl
  have hb3 := wrapS32_bounds (s16 c.p3 * (q / 2 ^ 13))
  have hb2 := wrapS32_bounds (s16 c.p2 * v)
  have hadd : addS32 (wrapS32 (s16 c.p3 * (q / 2 ^ 13)) / 2 ^ 3) (wrapS32 (s16 c.p2 * v) / 2 ^ 1) =
      wrapS32 (s16 c.p3 * (q / 2 ^ 13)) / 2 ^ 3 + wrapS32 (s16 c.p2 * v) / 2 :=
    wrapS32_of_range (by omega) (by omega)
  have hsum : addS32 32768 ((wrapS32 (s16 c.p3 * (q / 2 ^ 13)) / 2 ^ 3 + wrapS32 (s16 c.p2 * v) / 2) /
      2 ^ 18) = 32768 + (wrapS32 (s16 c.p3 * (q / 2 ^ 13)) / 2 ^ 3 + wrapS32 (s16 c.p2 * v) / 2) / 2 ^ 18 :=
    wrapS32_of_range (by omega) (by omega)
  simp only [divisor32, sra_eq_div, hsub, hsq, hp3, hp2, hadd, hsum]
  rfl

/-- Settles O44: the guard is the divisor, and the divisor is a floor. -/
theorem sentinelExactlyOnZeroDivisor : Obligations.SentinelExactlyOnZeroDivisor := by
  intro tf raw c
  refine ⟨compP64_sentinel_iff tf raw c, compP32_sentinel_iff tf raw c, fun h => ?_, fun h => ?_,
    fun h => ⟨divisor64_of_p1_zero tf h, divisor32_of_p1_zero tf h⟩, fun v D hv hD => ?_,
    fun v q D hv hq hD => ?_⟩
  · rw [compP64_of_zero_divisor raw ((compP64_sentinel_iff tf raw c).mp h)]
  · rw [compP32_of_zero_divisor raw ((compP32_sentinel_iff tf raw c).mp h)]
  · rw [divisor64_eq tf c hv, ← hD]
    exact ⟨rfl, floor_eq_zero_iff (by decide)⟩
  · rw [divisor32_eq tf c hv hq, ← hD]
    exact ⟨rfl, floor_eq_zero_iff (by decide)⟩

/-! ## The 64-bit form on words -/

/-- R144: T_FINE - 128000 as a 64-bit word. -/
def wordOffsetT64 (tf : Word) : BitVec 64 := tf.signExtend 64 - 128000#64

/-- `divisor64` on 64-bit words. -/
def wordDivisor64 (tf : Word) (c : CalTable) : BitVec 64 :=
  let v := wordOffsetT64 tf
  let d := (v * v * c.p3.signExtend 64).sshiftRight 8 + ((v * c.p2.signExtend 64) <<< 12)
  (((1#64 <<< 47) + d) * c.p1.setWidth 64).sshiftRight 33

/-- `offset64` on 64-bit words. -/
def wordOffset64 (tf : Word) (c : CalTable) : BitVec 64 :=
  let v := wordOffsetT64 tf
  v * v * c.p6.signExtend 64 + ((v * c.p5.signExtend 64) <<< 17) + (c.p4.signExtend 64 <<< 35)

/-- `finish64` on 64-bit words. -/
def wordFinish64 (p : BitVec 64) (c : CalTable) : BitVec 64 :=
  let x := (c.p9.signExtend 64 * p.sshiftRight 13 * p.sshiftRight 13).sshiftRight 25
  let y := (c.p8.signExtend 64 * p).sshiftRight 19
  (p + x + y).sshiftRight 8 + (c.p7.signExtend 64 <<< 4)

theorem sub64_128000_toInt (tf : Word) : sub64 tf.toInt 128000 = (wordOffsetT64 tf).toInt := by
  rw [wordOffsetT64, ← sub64_toInt, BitVec.toInt_signExtend_of_le (by decide)]
  rfl

theorem divisor64_toInt (tf : Word) (c : CalTable) : divisor64 tf c = (wordDivisor64 tf c).toInt := by
  have hone : (1 : Int) = (1#64).toInt := by decide
  simp only [divisor64, wordDivisor64, sub64_128000_toInt, s16_toInt64, u16_toInt64, mul64_toInt, sra_toInt,
    shl64_toInt, add64_toInt, hone]

theorem offset64_toInt (tf : Word) (c : CalTable) : offset64 tf c = (wordOffset64 tf c).toInt := by
  simp only [offset64, wordOffset64, sub64_128000_toInt, s16_toInt64, mul64_toInt, shl64_toInt, add64_toInt]

theorem finish64_toInt (p : BitVec 64) (c : CalTable) : finish64 p.toInt c = (wordFinish64 p c).toInt := by
  simp only [finish64, wordFinish64, s16_toInt64, mul64_toInt, sra_toInt, shl64_toInt, add64_toInt]

/-- R144: the low 32 bits of the s64 result. -/
theorem ofInt_wrapU32_toInt (x : BitVec 64) : BitVec.ofInt 32 (wrapU32 x.toInt) = x.setWidth 32 := by
  apply BitVec.eq_of_toNat_eq
  have := x.isLt
  simp only [wrapU32, BitVec.toNat_ofInt, BitVec.toNat_setWidth, BitVec.toInt_eq_toNat_cond]
  split <;> omega

/-- Settles O45: each part of compP64 is the value of its word, and so is their quotient. -/
theorem pressure64IsWordArithmetic : Obligations.Pressure64IsWordArithmetic := by
  intro tf raw c
  have hzero : wordDivisor64 tf c = 0#64 ↔ divisor64 tf c = 0 := by
    rw [divisor64_toInt, ← BitVec.toInt_inj, BitVec.toInt_zero]
  by_cases h : divisor64 tf c = 0
  · rw [compP64_of_zero_divisor raw h]
    exact (if_pos (hzero.mpr h)).symm
  · have hraw : (1048576 : Int) = (1048576#64).toInt := by decide
    have hscale : (3125 : Int) = (3125#64).toInt := by decide
    rw [compP64_of_divisor_ne raw h, divisor64_toInt, offset64_toInt, u20_toInt64, hraw, hscale, sub64_toInt,
      shl64_toInt, sub64_toInt, mul64_toInt, divT_toInt, finish64_toInt, ofInt_wrapU32_toInt]
    exact (if_neg (mt hzero.mp h)).symm

/-! ## The 32-bit form on words -/

/-- R148: ⌊T_FINE / 2⌋ - 64000 as a word. -/
def wordOffsetT32 (tf : Word) : Word := tf.sshiftRight 1 - 64000#32

/-- `divisor32` on words. -/
def wordDivisor32 (tf : Word) (c : CalTable) : Word :=
  let v := wordOffsetT32 tf
  let q := v.sshiftRight 2 * v.sshiftRight 2
  let d := ((c.p3.signExtend 32 * q.sshiftRight 13).sshiftRight 3 +
    (c.p2.signExtend 32 * v).sshiftRight 1).sshiftRight 18
  ((32768#32 + d) * c.p1.setWidth 32).sshiftRight 15

/-- `offset32` on words. -/
def wordOffset32 (tf : Word) (c : CalTable) : Word :=
  let v := wordOffsetT32 tf
  let q := v.sshiftRight 2 * v.sshiftRight 2
  (q.sshiftRight 11 * c.p6.signExtend 32 + ((v * c.p5.signExtend 32) <<< 1)).sshiftRight 2 +
    (c.p4.signExtend 32 <<< 16)

/-- `divide32` on words. -/
def wordDivide32 (p d : Word) : Word :=
  if p < 0x80000000#32 then (p <<< 1).udiv d else p.udiv d * 2#32

/-- `finish32` on words. -/
def wordFinish32 (p : Word) (c : CalTable) : Word :=
  let x := (c.p9.signExtend 32 * (((p >>> 3) * (p >>> 3)) >>> 13)).sshiftRight 12
  let y := ((p >>> 2) * c.p8.signExtend 32).sshiftRight 13
  p + (x + y + c.p7.signExtend 32).sshiftRight 4

theorem subS32_64000_toInt (tf : Word) :
    subS32 (tf.sshiftRight 1).toInt 64000 = (wordOffsetT32 tf).toInt := by
  rw [wordOffsetT32, ← subS32_toInt]
  rfl

theorem divisor32_toInt (tf : Word) (c : CalTable) : divisor32 tf c = (wordDivisor32 tf c).toInt := by
  have hbase : (32768 : Int) = (32768#32).toInt := by decide
  simp only [divisor32, wordDivisor32, subS32_64000_toInt, s16_toInt32, u16_toInt32, mulS32_toInt, sra_toInt,
    addS32_toInt, hbase]

theorem offset32_toInt (tf : Word) (c : CalTable) : offset32 tf c = (wordOffset32 tf c).toInt := by
  simp only [offset32, wordOffset32, subS32_64000_toInt, s16_toInt32, mulS32_toInt, sra_toInt,
    wrapS32_shl_toInt, addS32_toInt]

/-- R152: both branches of the division are unsigned word operations. -/
theorem divide32_toNat (p d : Word) : divide32 p.toNat d.toNat = ((wordDivide32 p d).toNat : Int) := by
  have hp := p.isLt
  by_cases h : p.toNat < 2 ^ 31
  · have hlt : p < 0x80000000#32 := h
    have hshl : (p <<< 1).toNat = p.toNat * 2 := by
      rw [BitVec.toNat_shiftLeft, Nat.shiftLeft_eq]
      omega
    rw [divide32_of_lt _ (by omega), wordDivide32, if_pos hlt, BitVec.udiv_eq, BitVec.toNat_udiv, hshl]
    norm_cast
  · have hge : ¬ p < 0x80000000#32 := h
    rw [divide32_of_ge _ (by omega), wordDivide32, if_neg hge, BitVec.toNat_mul, BitVec.udiv_eq,
      BitVec.toNat_udiv]
    norm_cast

/-- R140 (f): the u32 sum of two s32 values. -/
theorem addU32_toInt (x y : Word) : addU32 x.toInt y.toInt = ((x + y).toNat : Int) := by
  rw [addU32, wrapU32_eq_toNat, BitVec.ofInt_add, BitVec.ofInt_toInt, BitVec.ofInt_toInt]

theorem finish32_toNat (p : Word) (c : CalTable) : finish32 p.toNat c = ((wordFinish32 p c).toNat : Int) := by
  simp only [finish32, wordFinish32, sra_toNat, mulU32_toNat, wrapS32_toNat, s16_toInt32, mulS32_toInt,
    sra_toInt, addS32_toInt, addU32_toInt]

/-- R148: 2^20 - RAW_P as a word. -/
theorem wrapU32_complement_raw (raw : Raw) :
    wrapU32 (1048576 - u20 raw) = ((1048576#32 - raw.setWidth 32).toNat : Int) := by
  have hraw : (raw.setWidth 32).toNat = raw.toNat := by
    have := raw.isLt
    rw [BitVec.toNat_setWidth]
    omega
  rw [← subU32_toNat, hraw]
  rfl

/-- Settles O46: each part of compP32 is the value of its word, and so is their quotient. -/
theorem pressure32IsWordArithmetic : Obligations.Pressure32IsWordArithmetic := by
  intro tf raw c
  have hzero : wordDivisor32 tf c = 0#32 ↔ divisor32 tf c = 0 := by
    rw [divisor32_toInt, ← BitVec.toInt_inj, BitVec.toInt_zero]
  by_cases h : divisor32 tf c = 0
  · rw [compP32_of_zero_divisor raw h]
    exact (if_pos (hzero.mpr h)).symm
  · have hscale : (3125 : Int) = ((3125#32).toNat : Int) := by decide
    rw [compP32_of_divisor_ne raw h, divisor32_toInt, offset32_toInt, sra_toInt, wrapU32_toInt, wrapU32_toInt,
      wrapU32_complement_raw, hscale, subU32_toNat, mulU32_toNat, divide32_toNat, finish32_toNat,
      BitVec.ofInt_natCast, BitVec.ofNat_toNat, BitVec.setWidth_eq]
    exact (if_neg (mt hzero.mp h)).symm

end Sys2Proof.Machine
end

section
/-! PROOFS. The functions of 42_altitude.md: the logarithm's integer part, order and truncation, the
exponential's bounds, and the range and sign of the altitude. -/

namespace Sys2Proof.Machine

/-! ## The logarithm -/

/-- R172: the fraction bits of a normalised mantissa. -/
def log2Fraction (x : Word) : Nat := log2Loop 24 (x.toNat <<< (31 - x.toNat.log2)) 0

theorem log2fx_eq_add_fraction (x : Word) : log2fx x = x.toNat.log2 * 2 ^ 24 + log2Fraction x :=
  log2fx_eq x

theorem log2Fraction_lt (x : Word) : log2Fraction x < 2 ^ 24 := log2Loop_lt 24 _

theorem toNat_ne_zero {x : Word} (h : x ≠ 0) : x.toNat ≠ 0 :=
  fun h0 => h (BitVec.eq_of_toNat_eq h0)

/-- R172: the integer part of log2fx is the exponent. -/
theorem log2fx_integer_part (x : Word) : log2fx x / 2 ^ 24 = x.toNat.log2 := by
  have := log2Fraction_lt x
  rw [log2fx_eq_add_fraction]
  omega

theorem log2fx_lt {x : Word} (h : x ≠ 0) : log2fx x < 2 ^ 29 := by
  have hlog := (log2_start_range x h).1
  have hfrac := log2Fraction_lt x
  rw [log2fx_eq_add_fraction]
  omega

/-- Settles O47: the integer part is the exponent `Nat.log2` of the operand. -/
theorem logarithmRangeAndIntegerPart : Obligations.LogarithmRangeAndIntegerPart := by
  intro x h
  rw [log2fx_integer_part]
  exact ⟨log2fx_lt h, Nat.log2_self_le (toNat_ne_zero h), Nat.lt_log2_self⟩

theorem shiftRight_mono {a b : Nat} (h : a ≤ b) (k : Nat) : a >>> k ≤ b >>> k := by
  rw [Nat.shiftRight_eq_div_pow, Nat.shiftRight_eq_div_pow]
  exact Nat.div_le_div_right h

theorem shiftLeft_mono {a b : Nat} (h : a ≤ b) (k : Nat) : a <<< k ≤ b <<< k := by
  rw [Nat.shiftLeft_eq, Nat.shiftLeft_eq]
  exact Nat.mul_le_mul_right _ h

/-- R172: a larger normalised mantissa has no smaller fraction bits. -/
theorem log2Loop_mono (n : Nat) : ∀ {m m' : Nat}, 2 ^ 31 ≤ m → m ≤ m' → m' < 2 ^ 32 →
    log2Loop n m 0 ≤ log2Loop n m' 0 := by
  induction n with
  | zero => exact fun _ _ _ => le_rfl
  | succ n ih =>
    intro m m' hm hle hm'
    have hsq : (m * m) >>> 31 ≤ (m' * m') >>> 31 :=
      shiftRight_mono (Nat.mul_le_mul hle hle) 31
    have hrange := square_range hm (hle.trans_lt hm')
    have hrange' := square_range (hm.trans hle) hm'
    rw [log2Loop_succ, log2Loop_succ]
    split_ifs with h h'
    · exact Nat.add_le_add_left (ih (halved_range h hrange.2).1 (shiftRight_mono hsq 1)
        (halved_range h' hrange'.2).2) _
    · exact absurd (h.trans hsq) h'
    · have := log2Loop_lt n ((m * m) >>> 31)
      omega
    · exact ih hrange.1 hsq (by omega)

/-- Settles O48: by exponents, and for equal exponents by mantissas. -/
theorem logarithmIsMonotone : Obligations.LogarithmIsMonotone := by
  intro x y hx hxy
  have hy : y ≠ 0 := by
    rintro rfl
    exact toNat_ne_zero hx (Nat.le_zero.mp hxy)
  rw [log2fx_eq_add_fraction, log2fx_eq_add_fraction]
  have hlog : x.toNat.log2 ≤ y.toNat.log2 := by
    rw [Nat.le_log2 (toNat_ne_zero hy)]
    exact (Nat.log2_self_le (toNat_ne_zero hx)).trans hxy
  rcases hlog.lt_or_eq with hlt | heq
  · have := log2Fraction_lt x
    omega
  · have hfrac : log2Fraction x ≤ log2Fraction y := by
      have hstart := (log2_start_range x hx).2.1
      rw [heq] at hstart
      rw [log2Fraction, log2Fraction, heq]
      exact log2Loop_mono 24 hstart (shiftLeft_mono hxy _) (log2_start_range y hy).2.2
    omega

/-- R172: the squarings never overestimate: 2^(fraction / 2^n) is at most the mantissa m / 2^31. -/
theorem two_pow_log2Loop_le (n : Nat) : ∀ {m : Nat}, 2 ^ 31 ≤ m → m < 2 ^ 32 →
    2 ^ log2Loop n m 0 * (2 ^ 31) ^ 2 ^ n ≤ m ^ 2 ^ n := by
  induction n with
  | zero => intro m hm _; simpa [log2Loop] using hm
  | succ n ih =>
    intro m hm hm'
    have hrange := square_range hm hm'
    have hsq : 2 ^ 31 * ((m * m) >>> 31) ≤ m * m := by
      rw [Nat.shiftRight_eq_div_pow]
      exact Nat.mul_div_le _ _
    have hsplit (a : Nat) : a ^ 2 ^ (n + 1) = a ^ 2 ^ n * a ^ 2 ^ n := by
      rw [pow_succ 2 n, mul_two, pow_add]
    have hstep : (2 ^ 31 * ((m * m) >>> 31)) ^ 2 ^ n ≤ m ^ 2 ^ (n + 1) := by
      rw [hsplit, ← mul_pow]
      exact Nat.pow_le_pow_left hsq _
    refine le_trans ?_ hstep
    rw [log2Loop_succ, hsplit]
    generalize (m * m) >>> 31 = q at *
    split_ifs with h
    · have hhalf := halved_range h hrange.2
      have hq : 2 * (q >>> 1) ≤ q := by
        rw [Nat.shiftRight_eq_div_pow]
        exact Nat.mul_div_le _ _
      calc 2 ^ (2 ^ n + log2Loop n (q >>> 1) 0) * ((2 ^ 31) ^ 2 ^ n * (2 ^ 31) ^ 2 ^ n)
          = 2 ^ 2 ^ n * (2 ^ 31) ^ 2 ^ n * (2 ^ log2Loop n (q >>> 1) 0 * (2 ^ 31) ^ 2 ^ n) := by
            rw [pow_add]; ring
        _ ≤ 2 ^ 2 ^ n * (2 ^ 31) ^ 2 ^ n * (q >>> 1) ^ 2 ^ n := Nat.mul_le_mul_left _ (ih hhalf.1 hhalf.2)
        _ = (2 ^ 31 * (2 * (q >>> 1))) ^ 2 ^ n := by rw [mul_pow, mul_pow]; ring
        _ ≤ (2 ^ 31 * q) ^ 2 ^ n := Nat.pow_le_pow_left (Nat.mul_le_mul_left _ hq) _
    · calc 2 ^ log2Loop n q 0 * ((2 ^ 31) ^ 2 ^ n * (2 ^ 31) ^ 2 ^ n)
          = (2 ^ 31) ^ 2 ^ n * (2 ^ log2Loop n q 0 * (2 ^ 31) ^ 2 ^ n) := by ring
        _ ≤ (2 ^ 31) ^ 2 ^ n * q ^ 2 ^ n := Nat.mul_le_mul_left _ (ih hrange.1 (by omega))
        _ = (2 ^ 31 * q) ^ 2 ^ n := (mul_pow _ _ _).symm

/-- R172: the bound on the fraction carried over to the whole logarithm, for any number `N` of parts. -/
theorem two_pow_add_fraction_le {x k F N : Nat} (hk : k ≤ 31)
    (h : 2 ^ F * (2 ^ 31) ^ N ≤ (x * 2 ^ (31 - k)) ^ N) : 2 ^ (k * N + F) ≤ x ^ N := by
  have hpow : (2 ^ 31) ^ N = (2 ^ k) ^ N * (2 ^ (31 - k)) ^ N := by
    rw [← mul_pow, ← pow_add, Nat.add_sub_of_le hk]
  refine Nat.le_of_mul_le_mul_right (c := (2 ^ (31 - k)) ^ N) ?_ (by positivity)
  calc 2 ^ (k * N + F) * (2 ^ (31 - k)) ^ N
      = 2 ^ F * ((2 ^ k) ^ N * (2 ^ (31 - k)) ^ N) := by rw [pow_add, pow_mul]; ring
    _ ≤ x ^ N * (2 ^ (31 - k)) ^ N := by rw [← hpow, ← mul_pow]; exact h

/-- Settles O49: no squaring overestimates, and the exponent is exact. -/
theorem logarithmNeverExceedsTheRealOne : Obligations.LogarithmNeverExceedsTheRealOne := by
  intro x hx
  obtain ⟨hk, hlo, hhi⟩ := log2_start_range x hx
  have h := two_pow_log2Loop_le 24 hlo hhi
  rw [Nat.shiftLeft_eq] at h
  rw [log2fx_eq, Nat.shiftLeft_eq]
  exact two_pow_add_fraction_le hk h

/-! ## The exponential -/

/-- R173: the mantissa is at least 1.0, because every table entry is. -/
theorem exp2core_mantissa_ge (y : Int) : 2 ^ 30 ≤ (exp2core y).2 :=
  exp2Loop_ge _ exp2Table 24 one30 (by decide)

/-- Settles O50: the floor of the exponent, and the product between its bounds. -/
theorem exponentialMantissaBounds : Obligations.ExponentialMantissaBounds :=
  ⟨fun y => ⟨exp2core_floor y, exp2core_mantissa_ge y, exp2core_mantissa_lt y⟩, by decide⟩

/-- R174: below 7 the result is the mantissa shifted right, also where the rule writes 0 or no shift. -/
theorem exp2fx_of_lt_seven {y : Int} (h : y < 7 * 2 ^ 24) :
    exp2fx y = (exp2core y).2 >>> (6 - y / 2 ^ 24).toNat := by
  have hfloor := exp2core_floor y
  by_cases hk : y / 2 ^ 24 = 6
  · have hsix : (exp2core y).1 = 6 := hfloor.trans hk
    have hleft : exp2fx y = (exp2core y).2 <<< ((exp2core y).1 - 6).toNat := if_pos hsix.ge
    rw [hleft, hsix, hk]
    rfl
  · rw [exp2fx_of_floor_lt (by omega), hfloor]
    split_ifs with hsh
    · have hr : (exp2core y).2 < 2 ^ (6 - y / 2 ^ 24).toNat :=
        (exp2core_mantissa_lt y).trans_le (Nat.pow_le_pow_right (by decide) (by omega))
      rw [Nat.shiftRight_eq_div_pow, Nat.div_eq_of_lt hr]
    · rfl

/-- R174: for an exponent from 0 up to below 7 the result is at least 1.0. -/
theorem exp2fx_ge_one {y : Int} (h : 0 ≤ y) (h' : y < 7 * 2 ^ 24) : 2 ^ 24 ≤ exp2fx y := by
  rw [exp2fx_of_lt_seven h', Nat.shiftRight_eq_div_pow]
  have hshift : 2 ^ (6 - y / 2 ^ 24).toNat ≤ 2 ^ 6 := Nat.pow_le_pow_right (by decide) (by omega)
  exact Nat.div_le_div (exp2core_mantissa_ge y) hshift (by positivity)

/-- R174: for an exponent of at most 0 the result is at most 1.0. -/
theorem exp2fx_le_one {y : Int} (h : y ≤ 0) : exp2fx y ≤ 2 ^ 24 := by
  rcases h.lt_or_eq with hneg | rfl
  · have hr := exp2core_mantissa_lt y
    have hsh : 2 ^ 7 ≤ 2 ^ (6 - y / 2 ^ 24).toNat := Nat.pow_le_pow_right (by decide) (by omega)
    rw [exp2fx_of_lt_seven (by omega), Nat.shiftRight_eq_div_pow]
    calc (exp2core y).2 / 2 ^ (6 - y / 2 ^ 24).toNat ≤ (exp2core y).2 / 2 ^ 7 :=
          Nat.div_le_div_left hsh (by decide)
      _ ≤ 2 ^ 24 := by omega
  · decide

/-- R174: for an exponent below 7 the result stays below 2^31. -/
theorem exp2fx_lt {y : Int} (h : y < 7 * 2 ^ 24) : exp2fx y < 2 ^ 31 := by
  rw [exp2fx_of_lt_seven h]
  exact (Nat.shiftRight_le _ _).trans_lt (exp2core_mantissa_lt y)

/-! ## The altitude -/

/-- R175: the exponent of the barometric formula. -/
def altExponent (p s : Word) : Int := (((log2fx p : Int) - log2fx s) * 817310617) / 2 ^ 32

/-- R175 with its shifts as floor divisions. -/
theorem altfx_eq {p : Word} (s : Word) (hp : p ≠ 0) :
    altfx p s = (44330 * (16777216 - (exp2fx (altExponent p s) : Int))) / 2 ^ 16 := by
  have hexp : sra (((log2fx p : Int) - log2fx s) * eAlt) 32 = altExponent p s := sra_eq_div _ 32
  simp only [altfx, if_neg hp, hexp]
  exact sra_eq_div _ 16

/-- R176: the exponent's range, from the logarithms'. -/
theorem altExponent_bounds {p s : Word} (hp : p ≠ 0) (hs : s ≠ 0) :
    -7 * 2 ^ 24 ≤ altExponent p s ∧ altExponent p s < 7 * 2 ^ 24 := by
  have hlp := log2fx_lt hp
  have hls := log2fx_lt hs
  rw [altExponent]
  omega

/-- Settles O51: the exponent stays below 7, so the exponential below 2^31. -/
theorem altitudeFitsItsRegister : Obligations.AltitudeFitsItsRegister := by
  intro p s hp hs
  have hy := altExponent_bounds hp hs
  have he := exp2fx_lt hy.2
  refine ⟨?_, altfx_eq s hp, toInt_ofInt_of_range ?_⟩
  · change -7 ≤ altExponent p s / 2 ^ 24 ∧ altExponent p s / 2 ^ 24 ≤ 6
    omega
  · rw [altfx_eq s hp]
    omega

/-- Settles O52: the order of the pressures is that of their logarithms, which decides on which side of 1.0
the exponential lies. -/
theorem altitudeHasTheRightSign : Obligations.AltitudeHasTheRightSign := by
  intro p s hs
  refine ⟨fun hsp => ?_, fun hps => ?_⟩
  · have hp : p ≠ 0 := by
      rintro rfl
      exact toNat_ne_zero hs (Nat.le_zero.mp hsp)
    have hlog := logarithmIsMonotone s p hs hsp
    have hy : 0 ≤ altExponent p s := by rw [altExponent]; omega
    have he := exp2fx_ge_one hy (altExponent_bounds hp hs).2
    rw [altfx_eq s hp]
    omega
  · by_cases hp : p = 0
    · rw [hp, altfx_zero]
      decide
    · have hlog := logarithmIsMonotone p s hp hps
      have hy : altExponent p s ≤ 0 := by rw [altExponent]; omega
      have he := exp2fx_le_one hy
      rw [altfx_eq s hp]
      omega

/-- Refutes O53: the logarithms of 2^31 + 1 and 2^31 agree in their 24 fraction bits. -/
theorem not_pressureAboveReferenceIsNegative : ¬ Obligations.PressureAboveReferenceIsNegative := by
  intro h
  have hzero : altfx 0x80000001 0x80000000 = 0 := by decide
  have hneg : altfx 0x80000001 0x80000000 < 0 := h 0x80000001 0x80000000 (by decide) (by decide)
  exact absurd hneg (by rw [hzero]; decide)

/-- Settles O19: by the three checks of R180 in order; past them the command is `altitudeStage`. -/
theorem altWritesTheAltitude : Obligations.AltWritesTheAltitude := by
  refine ⟨decode_encode .alt, fun s hq => ?_, fun s hq hp => ?_, fun s hq hp hs => ?_,
    fun s hq hp hs => ?_, by decide, by decide, by decide⟩
  · exact exec_of_failure (i := .alt) (by rw [firstFailure_alt, if_pos hq])
  · exact exec_of_failure (i := .alt) (by simp [firstFailure_alt, hq, hp])
  · exact exec_of_failure (i := .alt) (by simp [firstFailure_alt, hq, hp, hs])
  · have hpass : firstFailure .alt s = none := by
      rw [firstFailure_alt, if_neg (not_not.mpr hq), if_neg (by simp [hp]), if_neg hs]
    exact (exec_of_passed hpass).trans (next_complete .none _)

end Sys2Proof.Machine
end
